-- ==== Sys2Proof/Word.lean ====
section
/-! DEFINITION. The two word widths of the codec block (10_state.md R27, R29): bytes, and the 16-bit length quantities. Everything is unsigned (00_scope.md R10). -/

namespace Sys2Proof

/-- A byte: 8 bits, bit 7 the most significant (R10). -/
abbrev Byte := BitVec 8

/-- A 16-bit quantity: `len`, `cnt`, `TLEN`, `RES_PLEN`. -/
abbrev Half := BitVec 16

end Sys2Proof
end

