-- ==== Sys2Proof/Config.lean ====
section
/-! DEFINITION. What is fixed before reset and never changed (10_state.md R22): the constants of R7 and R8, the parameters of R9, and the free values (opaque constants with no body) for what the spec leaves open. -/

namespace Sys2Proof

/-- `START`, the start marker (R7, R91). -/
abbrev START : Byte := 0xAA
/-- `END`, the end marker (R7, R97). -/
abbrev END : Byte := 0xBB
/-- `VERSION`, the protocol version byte (R7, R93). -/
abbrev VERSION : Byte := 0x02
/-- `TAG_OPEN`, the type byte of an `open` frame, which the source fixes (R7). -/
abbrev TAG_OPEN : Byte := 0x6F
/-- `OVERHEAD`, the fixed bytes of a frame (R7). -/
abbrev OVERHEAD : Nat := 7
/-- `POLY`, the CRC-8 polynomial without its `x^8` term (R7). -/
abbrev POLY : Byte := 0x07
/-- `CRC_INIT`, the value every CRC computation starts from (R7, R131). -/
abbrev CRC_INIT : Byte := 0x00
/-- `PAYLOAD_MAX`, the largest payload a frame can carry (R8). -/
abbrev PAYLOAD_MAX : Nat := 65528
/-- Bytes of `PBUF` (R9, R40). -/
abbrev PBUF_SIZE : Nat := 65528
/-- Bytes of `TBUF` (R9, R41). -/
abbrev TBUF_SIZE : Nat := 65535

/-- Error codes (R221). -/
abbrev ERR_NO_ERROR : Byte := 0
abbrev ERR_CRC : Byte := 1
abbrev ERR_VERSION : Byte := 2
abbrev ERR_ENDING : Byte := 3
abbrev ERR_TYPE : Byte := 4
abbrev ERR_OPENED : Byte := 5
abbrev ERR_CLOSED : Byte := 6

/-- The parameters of R9: the five tags that are open, and `TEST_KNOWN`. `TAG_OPEN` is none of them (R7). -/
structure Config where
  tagData   : Byte
  tagAck    : Byte
  tagClose  : Byte
  tagEcho   : Byte
  tagTest   : Byte
  /-- `TEST_KNOWN`: whether `TAG_TEST` is a recognised kind at dispatch (R210). -/
  testKnown : Bool
  deriving DecidableEq, Repr

/-- The defaults of R9 (decisions D5, D6). Log 2. -/
def Config.default : Config :=
  { tagData := 0x64, tagAck := 0x61, tagClose := 0x63, tagEcho := 0x65, tagTest := 0x74, testKnown := true }

/-- The six tags in the order of R105. -/
def Config.tags (c : Config) : List Byte :=
  [c.tagData, c.tagAck, TAG_OPEN, c.tagClose, c.tagEcho, c.tagTest]

/-- The only law on the tags: "the six are pairwise distinct" (R105). -/
abbrev Config.distinct (c : Config) : Prop := c.tags.Nodup

/-- FREE VALUE (R41, U8; log 10): the byte of `TBUF` at an index nothing has written since reset; the first argument counts resets. -/
opaque Config.freeTbuf : Nat → Nat → Byte

/-- FREE VALUE (R40, R238, U8; log 10, log 11): the byte of `PBUF` at an index nothing has written since its contents became unspecified; the first argument counts those events. -/
opaque Config.freePbuf : Nat → Nat → Byte

/-- FREE VALUE (R63, U4; log 12): whether a set receive fault wins over an available byte. -/
opaque Config.rxFaultWins : Nat → Bool

/-- FREE VALUE (R63, U4; log 12): how many of the bytes available to a failed read it removed. -/
opaque Config.rxFaultDrops : Nat → Nat

/-- FREE VALUE (R38, U7; log 15): what a host read of a result register returns while `BUSY = 1`. -/
opaque Config.freeRead : Nat → BitVec 32

end Sys2Proof
end

