-- ==== Sys2Proof/Syntax.lean ====
section
/-! DEFINITION. The operations of the block: one constructor for each of the 23 rows of spec/opcode_table.json (30_encoding.md R123). CMD rows have no operand bits; a FRAME row's operands are the header fields its mask leaves free (length, version; for the default row the type byte too); an ACKCODE default row's operand is the code byte. -/

namespace Sys2Proof

inductive Instr where
  /-- `CRC8` (R137). -/
  | crc8
  /-- `ENC_DATA` (R158). -/
  | encData
  /-- `ENC_ACK` (R159). -/
  | encAck
  /-- `ENC_OPEN` (R160). -/
  | encOpen
  /-- `ENC_CLOSE` (R161). -/
  | encClose
  /-- `ENC_ECHO` (R162). -/
  | encEcho
  /-- `DECODE` (R171). -/
  | decode
  /-- The reserved command code 7 (R111). -/
  | cmdReserved
  /-- `RX_DATA` (R205): header length field and version byte as received. -/
  | rxData (len : Half) (ver : Byte)
  /-- `RX_ACK` (R203, R204). -/
  | rxAck (len : Half) (ver : Byte)
  /-- `RX_OPEN` (R206). -/
  | rxOpen (len : Half) (ver : Byte)
  /-- `RX_CLOSE` (R207). -/
  | rxClose (len : Half) (ver : Byte)
  /-- `RX_ECHO` (R208). -/
  | rxEcho (len : Half) (ver : Byte)
  /-- `RX_TEST` (R210). -/
  | rxTest (len : Half) (ver : Byte)
  /-- `RX_UNKNOWN` (R209): the default row, with the type byte that matched no tag. -/
  | rxUnknown (len : Half) (ver : Byte) (typ : Byte)
  /-- Code byte 0 in the payload of a received `ack` (R203, R221). -/
  | ackNoError
  /-- Code byte 1. -/
  | ackCrc
  /-- Code byte 2. -/
  | ackVersion
  /-- Code byte 3. -/
  | ackEnding
  /-- Code byte 4. -/
  | ackType
  /-- Code byte 5. -/
  | ackOpened
  /-- Code byte 6. -/
  | ackClosed
  /-- Any code byte 7 to 255 (R113). -/
  | ackUnknown (code : Byte)
  deriving DecidableEq, Repr

end Sys2Proof
end

