-- ==== Sys2Proof/WellFormed.lean ====
section
/-! DEFINITION. Which terms of `Instr` are instructions of the block: a FRAME row applies only when the length field is 7 or more (30_encoding.md R114, R123), the default rows only when no other row of their group matches (R123). -/

namespace Sys2Proof

/-- The well-formedness check, under the tag values of `c`. -/
def Instr.wf (c : Config) : Instr → Bool
  | .crc8 | .encData | .encAck | .encOpen | .encClose | .encEcho | .decode | .cmdReserved => true
  | .rxData len _ | .rxAck len _ | .rxOpen len _ | .rxClose len _ | .rxEcho len _ | .rxTest len _ => OVERHEAD ≤ len.toNat
  | .rxUnknown len _ typ => decide (OVERHEAD ≤ len.toNat) && !(c.tags.contains typ)
  | .ackNoError | .ackCrc | .ackVersion | .ackEnding | .ackType | .ackOpened | .ackClosed => true
  | .ackUnknown code => 7 ≤ code.toNat

/-- `i` is an instruction of the block under the tag values of `c`. -/
abbrev WellFormed (c : Config) (i : Instr) : Prop := i.wf c = true

end Sys2Proof
end

