-- ==== Sys2Proof/Decode.lean ====
section
/-! DEFINITION. The three encodings (30_encoding.md R90, R107, R110, R123): from words to instructions, total on any word and rejecting by name, and from instructions back to words. -/

namespace Sys2Proof

/-- The high byte `v[15:8]` of a 16-bit value (R68). -/
def hiByte (v : Half) : Byte := v.extractLsb' 8 8

/-- The low byte `v[7:0]` of a 16-bit value (R68). -/
def loByte (v : Half) : Byte := v.extractLsb' 0 8

/-- The 16-bit value of two bytes, `b0` received first: `b0 * 256 + b1` (R68, R100). -/
def ofBytes (b0 b1 : Byte) : Half := b0 ++ b1

/-- A word of one of the three encodings; the group is where the word stands. -/
inductive Code where
  /-- The 3-bit value written to `CMD` (R110). -/
  | cmd (code : BitVec 3)
  /-- The header of a frame, start marker to type byte (R90). -/
  | header (bytes : List Byte)
  /-- The payload byte of an `ack` frame (R107). -/
  | ackCode (code : Byte)
  deriving DecidableEq, Repr

/-- Why a word is no instruction. -/
inductive Reject where
  /-- The first byte is not `0xAA`: no frame starts here (R91). -/
  | badStart
  /-- The length field is 0 to 6 (R114). -/
  | malformedLength
  /-- Not the five bytes of a header (R90). -/
  | notAHeader
  deriving DecidableEq, Repr

/-- The CMD rows (R110); code 7 is reserved (R111). -/
def decodeCmd (c : BitVec 3) : Instr :=
  match c.toNat with
  | 0 => .crc8
  | 1 => .encData
  | 2 => .encAck
  | 3 => .encOpen
  | 4 => .encClose
  | 5 => .encEcho
  | 6 => .decode
  | _ => .cmdReserved

/-- The FRAME rows: "What selects a dispatch operation is the type byte alone" (R106), compared for equality with the six tags (R105). -/
def frameInstr (c : Config) (len : Half) (ver typ : Byte) : Instr :=
  if typ = c.tagData then .rxData len ver
  else if typ = c.tagAck then .rxAck len ver
  else if typ = TAG_OPEN then .rxOpen len ver
  else if typ = c.tagClose then .rxClose len ver
  else if typ = c.tagEcho then .rxEcho len ver
  else if typ = c.tagTest then .rxTest len ver
  else .rxUnknown len ver typ

/-- A header as received: start marker, big-endian length, version, type (R90); "a FRAME row applies only when the length field is 7 or more" (R123). -/
def decodeHeader (c : Config) : List Byte → Except Reject Instr
  | [start, l1, l0, ver, typ] =>
    if start = START then
      if OVERHEAD ≤ (ofBytes l1 l0).toNat then .ok (frameInstr c (ofBytes l1 l0) ver typ)
      else .error .malformedLength
    else .error .badStart
  | _ => .error .notAHeader

/-- The ACKCODE rows (R107, R221, R113). -/
def decodeAckCode (b : Byte) : Instr :=
  match b.toNat with
  | 0 => .ackNoError
  | 1 => .ackCrc
  | 2 => .ackVersion
  | 3 => .ackEnding
  | 4 => .ackType
  | 5 => .ackOpened
  | 6 => .ackClosed
  | _ => .ackUnknown b

/-- The decoder, total on every word. -/
def decode (c : Config) : Code → Except Reject Instr
  | .cmd code => .ok (decodeCmd code)
  | .header bytes => decodeHeader c bytes
  | .ackCode b => .ok (decodeAckCode b)

/-- The five header bytes of a frame with length field `len`, version `ver`, type `typ` (R90). -/
def headerBytes (len : Half) (ver typ : Byte) : List Byte :=
  [START, hiByte len, loByte len, ver, typ]

/-- The encoder: the word of an instruction under the tag values of `c`. -/
def encode (c : Config) : Instr → Code
  | .crc8 => .cmd 0
  | .encData => .cmd 1
  | .encAck => .cmd 2
  | .encOpen => .cmd 3
  | .encClose => .cmd 4
  | .encEcho => .cmd 5
  | .decode => .cmd 6
  | .cmdReserved => .cmd 7
  | .rxData len ver => .header (headerBytes len ver c.tagData)
  | .rxAck len ver => .header (headerBytes len ver c.tagAck)
  | .rxOpen len ver => .header (headerBytes len ver TAG_OPEN)
  | .rxClose len ver => .header (headerBytes len ver c.tagClose)
  | .rxEcho len ver => .header (headerBytes len ver c.tagEcho)
  | .rxTest len ver => .header (headerBytes len ver c.tagTest)
  | .rxUnknown len ver typ => .header (headerBytes len ver typ)
  | .ackNoError => .ackCode 0
  | .ackCrc => .ackCode 1
  | .ackVersion => .ackCode 2
  | .ackEnding => .ackCode 3
  | .ackType => .ackCode 4
  | .ackOpened => .ackCode 5
  | .ackClosed => .ackCode 6
  | .ackUnknown code => .ackCode code

/-- The word that the opcode table numbers as `w` on `nbits` bits. A 40-bit word is a header, `start[39:32]` the first byte on the wire (R90). The table's CMD rows (3 bits) and ACKCODE rows (8 bits) both come as one byte: values 0 to 7 are read as command codes, the rest as code bytes (log 17). -/
def codeOfTableWord (nbits w : Nat) : Option Code :=
  if nbits = 40 then
    if w < 2 ^ 40 then
      some (.header [BitVec.ofNat 8 (w / 2 ^ 32), BitVec.ofNat 8 (w / 2 ^ 24), BitVec.ofNat 8 (w / 2 ^ 16),
        BitVec.ofNat 8 (w / 2 ^ 8), BitVec.ofNat 8 w])
    else none
  else if nbits ≤ 8 then
    if w < 8 then some (.cmd (BitVec.ofNat 3 w))
    else if w < 256 then some (.ackCode (BitVec.ofNat 8 w))
    else none
  else none

/-- The instruction the decoder reads from a word of the opcode table, with the default tags of R9. -/
def decodeTableWord (nbits w : Nat) : Option Instr :=
  match codeOfTableWord nbits w with
  | some code => (decode Config.default code).toOption
  | none => none

end Sys2Proof
end

