-- ==== Sys2Proof/Machine/State.lean ====
section
/-! DEFINITION. The state of the machine as plain data (10_state.md), the reasons a step can stop, and the state right after reset (R48, R260). -/

namespace Sys2Proof.Machine

/-- `op`, the command being executed (R23). `reserved` is the model's value for the accepted code 7, which R111 completes in the next step (log 6). -/
inductive Op where
  | none | crc8 | encData | encAck | encOpen | encClose | encEcho | decode | reserved
  deriving DecidableEq, Repr

/-- `rx_state` (R23, R24). -/
inductive RxState where
  | idle | seekStart | readLength | readVersion | readType | readPayload | readCrc | readEnd | dispatch
  deriving DecidableEq, Repr

/-- `RES_KIND` (R36); codes 14 and 15 are never written (U12). -/
inductive ResKind where
  | none | data | ack | unknownAck | openFrame | closeFrame | echo | test | unknownType | badLength | transportErr | sent | crcDone | rejected
  deriving DecidableEq, Repr

/-- A byte buffer (R40, R41): the bytes written since its contents were last unspecified, addresses strictly rising, and how often they became unspecified. An address not listed holds no value of the model's choosing: it reads as a free value (log 10). -/
structure Memory where
  cells : List Host.Cell
  epoch : Nat
  deriving DecidableEq, Repr

/-- The canonical form: addresses strictly rising. An unlisted address reads as no byte at all, so no entry can equal it. -/
abbrev Memory.wf (m : Memory) : Prop := m.cells.Pairwise (fun x y => x.1 < y.1)

/-- Every listed address is an index of a buffer of `n` bytes. -/
abbrev Memory.within (n : Nat) (m : Memory) : Prop := ∀ x ∈ m.cells, x.1 < n

/-- The thirteen host registers (R33); a buffer register with the index read. -/
inductive HostReg where
  | cmd | arg | tlen | tbuf (i : Nat) | status | flags | resKind | resCode | resTag | resPlen | resCrc | discard | pbuf (i : Nat)
  deriving DecidableEq, Repr

/-- What the HOST can do in one turn (R21): write one of the four writable registers, or read one. -/
inductive HostAct where
  | writeCmd (code : BitVec 3)
  | writeArg (v : Byte)
  | writeTlen (v : Half)
  | writeTbuf (i : Nat) (v : Byte)
  | read (r : HostReg)
  deriving DecidableEq, Repr

/-- What RXENV can do in one turn (R61): deliver a byte, set the fault; and recover (R47). -/
inductive RxAct where
  | deliver (b : Byte)
  | fail
  | recover
  deriving DecidableEq, Repr

/-- What TXENV does with a frame that is offered (R65): take it, signal failure, or neither. -/
inductive TxEnv where
  | accept | fail | hold
  deriving DecidableEq, Repr

/-- Whose turn it is: one of the four agents of R20, or a change of the pin `rst` (R260). -/
inductive Turn where
  | codec
  | host (a : HostAct)
  | rx (a : RxAct)
  | tx (a : TxEnv)
  | rst (level : Bool)
  deriving DecidableEq, Repr

/-- Everything the spec gives the machine. -/
structure State where
  /-- The parameters of R9, fixed: no step writes them (log 1). -/
  cfg       : Config
  op        : Op
  rxState   : RxState
  /-- Bytes consumed inside `READ_LENGTH` or `READ_PAYLOAD` (R25). -/
  cnt       : Half
  /-- The code of the fault `ack` whose `TxWrite` has not returned yet (R79, R188; log 7). -/
  ackPend   : Option Byte
  /-- The `TxWrite` of the frame an encode command or a dispatch operation sends has returned, and only its completion is left: the two are steps of their own (R18, R213; log 5). -/
  txDone    : Bool
  len       : Half
  ver       : Byte
  typ       : Byte
  rcrc      : Byte
  expc      : Byte
  endb      : Byte
  /-- Bytes dropped by `SEEK_START`: an unbounded natural (R29). -/
  discard   : Nat
  crcw      : Byte
  arg       : Byte
  tlen      : Half
  tbuf      : Memory
  /-- Bit 0 `BUSY`, bit 1 `DONE` (R35). -/
  status    : BitVec 2
  flags     : Byte
  resKind   : ResKind
  resCode   : Byte
  resTag    : Byte
  resPlen   : Half
  resCrc    : Byte
  pbuf      : Memory
  /-- The reset pin, true while asserted (R260; log 19). -/
  rst       : Bool
  /-- The receive queue, head first (R45). -/
  rxq       : List Byte
  /-- The receive-fault condition `rx_fault` (R61). -/
  rxFault   : Bool
  /-- The transmit history, oldest frame first (R46). -/
  txh       : List (List Byte)
  /-- What TXENV does with offered frames until its next turn (log 8). -/
  txEnv     : TxEnv
  /-- The turns to come (log 3); with none listed the turn is CODEC's. -/
  sched     : List Turn
  /-- How many free values have been drawn (log 28). -/
  draws     : Nat
  /-- What the HOST's last read returned (log 15). -/
  hostRd    : Option (BitVec 32)
  deriving DecidableEq, Repr

/-- Why a step stops the model. Only a HOST turn raises one; no operation of the block does (log 16). -/
inductive Fault where
  /-- A HOST turn names a buffer index that does not exist (R40, R41). Safe: the access has no meaning in the spec. -/
  | noSuchIndex
  /-- A HOST turn reads `CMD`, which "is not readable" (R34). Safe: the spec gives the read no value. -/
  | notReadable
  deriving DecidableEq, Repr

/-- Why a step has no meaning. -/
inductive Refusal where
  /-- An instruction without a meaning yet, raised by `exec`'s arm only. Safe: nothing can be proved of it. -/
  | notModelled (mnemonic : String)
  deriving DecidableEq, Repr

/-- A buffer right after power-on: nothing listed (R48: contents unspecified). -/
def Memory.empty : Memory := { cells := [], epoch := 0 }

/-- The machine right after reset (R48). The environment's fields, which reset does not touch (R262), are at the values of logs 3, 8, 9, 15, 28; the parameters at the defaults of R9. -/
def State.reset : State :=
  { cfg := Config.default
    op := .none, rxState := .idle, cnt := 0, ackPend := none, txDone := false
    len := 0, ver := 0, typ := 0, rcrc := 0, expc := 0, endb := 0, discard := 0, crcw := 0
    arg := 0, tlen := 0, tbuf := Memory.empty
    status := 0b00#2, flags := 0, resKind := .none, resCode := 0, resTag := 0, resPlen := 0, resCrc := 0
    pbuf := Memory.empty
    rst := false, rxq := [], rxFault := false, txh := [], txEnv := .accept
    sched := [], draws := 0, hostRd := none }

end Sys2Proof.Machine
end

