-- ==== Sys2Proof/Machine/Crc.lean ====
section
/-! DEFINITION. The CRC-8 checksum generator (40_crc8.md R130 to R133): polynomial 0x07, initial value 0x00, no reflection, no final XOR. -/

namespace Sys2Proof.Machine

/-- The bit step: "if the high bit of the register is set, shift left and XOR with the polynomial, else shift left" (R133). -/
def crcBit (c : Byte) : Byte :=
  if c.msb then (c <<< 1) ^^^ POLY else c <<< 1

/-- `n` bit steps. -/
def crcBits : Nat → Byte → Byte
  | 0, c => c
  | n + 1, c => crcBits n (crcBit c)

/-- The byte update: XOR the byte into the running value, then eight bit steps (R132). -/
def crcByte (c b : Byte) : Byte := crcBits 8 (c ^^^ b)

/-- The running value after a byte sequence (R139). -/
def crcFold : Byte → List Byte → Byte
  | c, [] => c
  | c, b :: s => crcFold (crcByte c b) s

/-- `crc8` (R130), from `CRC_INIT` (R131). -/
def crc8 (s : List Byte) : Byte := crcFold CRC_INIT s

end Sys2Proof.Machine
end

