-- ==== Sys2Proof/Machine/Flags.lean ====
section
/-! DEFINITION. `FLAGS` and `STATUS` (10_state.md R32, R35), and the code numbers of `RES_KIND` (R36). -/

namespace Sys2Proof.Machine

/-- The bits of `FLAGS` as masks (R32). -/
abbrev fRESYNC    : Byte := 0x01
abbrev fCRC       : Byte := 0x02
abbrev fVERSION   : Byte := 0x04
abbrev fENDING    : Byte := 0x08
abbrev fTYPE      : Byte := 0x10
abbrev fLENGTH    : Byte := 0x20
abbrev fACKFORM   : Byte := 0x40
abbrev fTRANSPORT : Byte := 0x80

/-- Set one flag; "no rule clears a bit during an operation" (R32). -/
def State.setFlag (f : Byte) (s : State) : State := { s with flags := s.flags ||| f }

/-- Whether a flag is set. -/
def State.hasFlag (f : Byte) (s : State) : Bool := s.flags &&& f != 0

/-- `STATUS` before the first command (R35). -/
abbrev sRESET : BitVec 2 := 0b00
/-- `STATUS` while an operation runs: `BUSY`. -/
abbrev sBUSY : BitVec 2 := 0b01
/-- `STATUS` after an operation: `DONE`. -/
abbrev sDONE : BitVec 2 := 0b10

/-- `STATUS.BUSY`, bit 0 (R33). -/
def State.busy (s : State) : Bool := s.status.getLsbD 0

/-- `STATUS.DONE`, bit 1 (R33). -/
def State.done (s : State) : Bool := s.status.getLsbD 1

/-- The code of each `RES_KIND` (R36). -/
def ResKind.code : ResKind → BitVec 4
  | .none => 0
  | .data => 1
  | .ack => 2
  | .unknownAck => 3
  | .openFrame => 4
  | .closeFrame => 5
  | .echo => 6
  | .test => 7
  | .unknownType => 8
  | .badLength => 9
  | .transportErr => 10
  | .sent => 11
  | .crcDone => 12
  | .rejected => 13

/-- `DISCARD`: `discard` saturated to 32 bits (R35). -/
def State.discardReg (s : State) : BitVec 32 := BitVec.ofNat 32 (min s.discard (2 ^ 32 - 1))

end Sys2Proof.Machine
end

