-- ==== Sys2Proof/Machine/Ops.lean ====
section
/-! DEFINITION. The operations shared by the meanings: buffers (00_scope.md R13), completion and the two raised faults (60_exceptions.md R236), the two stream primitives (20_memory.md R62, R65), and `Emit` (41_encode.md R151). -/

namespace Sys2Proof.Machine

/-! ### Buffers -/

/-- The byte listed at an address. -/
def lookupCell : List Host.Cell → Nat → Option Byte
  | [], _ => none
  | (b, v) :: rest, a => if a = b then some v else lookupCell rest a

/-- List a byte at an address, keeping the addresses strictly rising. -/
def insertCell : List Host.Cell → Nat → Byte → List Host.Cell
  | [], a, v => [(a, v)]
  | (b, w) :: rest, a, v =>
    if a < b then (a, v) :: (b, w) :: rest
    else if a = b then (a, v) :: rest
    else (b, w) :: insertCell rest a v

/-- The byte last written at an address, if any was. -/
def Memory.get? (m : Memory) (a : Nat) : Option Byte := lookupCell m.cells a

/-- `MemWrite(B, a, 1, [v])` (R13). -/
def Memory.write (m : Memory) (a : Nat) (v : Byte) : Memory :=
  { m with cells := insertCell m.cells a v }

/-- The contents become unspecified (R238, R260): nothing is listed, and unlisted addresses read as fresh free values. -/
def Memory.forget (m : Memory) : Memory := { cells := [], epoch := m.epoch + 1 }

/-- `pbuf[a]` of R13, given what an unwritten byte reads as. -/
def Memory.read (free : Nat → Nat → Byte) (m : Memory) (a : Nat) : Byte :=
  (m.get? a).getD (free m.epoch a)

/-- `MemRead(B, a, n)` (R13). -/
def Memory.readRange (free : Nat → Nat → Byte) (m : Memory) : Nat → Nat → List Byte
  | _, 0 => []
  | a, n + 1 => m.read free a :: m.readRange free (a + 1) n

/-- `MemRead(TBUF, 0, n)`; a byte never written is a free value (R41, U8; log 10). -/
def State.tbufRange (s : State) (n : Nat) : List Byte := s.tbuf.readRange Config.freeTbuf 0 n

/-- `MemRead(PBUF, 0, n)`; a byte never written is a free value (R40, U8; log 10). -/
def State.pbufRange (s : State) (n : Nat) : List Byte := s.pbuf.readRange Config.freePbuf 0 n

/-- `pbuf[a]`. -/
def State.pbufByte (s : State) (a : Nat) : Byte := s.pbuf.read Config.freePbuf a

/-- `TBUF[a]`. -/
def State.tbufByte (s : State) (a : Nat) : Byte := s.tbuf.read Config.freeTbuf a

/-! ### The end of an operation -/

/-- The sequencer after an operation: `op <- NONE`, `rx_state <- IDLE`, `BUSY <- 0`, `DONE <- 1` (R35, R236). -/
def State.complete (s : State) : State :=
  { s with op := .none, rxState := .idle, ackPend := none, txDone := false, status := sDONE }

/-- Completion with a result: the kind is written, then the operation ends (R35, R36). -/
def State.finish (k : ResKind) (s : State) : State := State.complete { s with resKind := k }

/-- `raise MalformedLength` (R178, R233): `FLAGS.LENGTH`, `BAD_LENGTH`, the operation ends. -/
def State.malformedLength (s : State) : State := (s.setFlag fLENGTH).finish .badLength

/-- `raise TransportFault` (R238): `FLAGS.TRANSPORT` beside the other flags, `TRANSPORT_ERR` over any kind already chosen, `PBUF` unspecified, the operation ends. `RES_TAG`, `RES_CODE`, `RES_PLEN` and `discard` stay as they stand. -/
def State.transportFault (s : State) : State :=
  State.finish .transportErr { s.setFlag fTRANSPORT with pbuf := s.pbuf.forget }

/-! ### The receive stream -/

/-- The bytes the multi-byte read in progress has already taken from `rxq`: what a failed read may or may not have removed (R63, U4; log 12). -/
def State.inFlight (s : State) : List Byte :=
  match s.rxState with
  | .readLength => if s.cnt = 0 then [] else [hiByte s.len]
  | .readPayload => s.pbufRange s.cnt.toNat
  | _ => []

/-- `RxRead` raises `TransportFault` (R63): which suffix of the receive queue is left is a free value. -/
def State.rxTransportFault (s : State) : State :=
  State.transportFault
    { s with rxq := (s.inFlight ++ s.rxq).drop (Config.rxFaultDrops s.draws), draws := s.draws + 1 }

/-- `RxRead(1)` and what the operation does with the byte (R62): with none available it holds, or raises when the fault is set; with the fault set and a byte available either outcome is allowed (R63). -/
def State.rxRead (s : State) (k : Byte → State → State) : State :=
  match s.rxq with
  | [] => if s.rxFault then s.rxTransportFault else s
  | b :: rest =>
    if s.rxFault then
      if Config.rxFaultWins s.draws then State.rxTransportFault { s with draws := s.draws + 1 }
      else k b { s with rxq := rest, draws := s.draws + 1 }
    else k b { s with rxq := rest }

/-! ### Frames and the transmit stream -/

/-- The crc of a frame with type byte `tag` and payload `p`: over the whole frame with the crc slot zeroed, end marker included (R96). -/
def frameCrc (tag : Byte) (p : List Byte) : Byte :=
  crc8 (headerBytes (BitVec.ofNat 16 (p.length + OVERHEAD)) VERSION tag ++ p ++ [0x00, END])

/-- The frame that `Emit(tag, p)` builds (R151). -/
def frame (tag : Byte) (p : List Byte) : List Byte :=
  headerBytes (BitVec.ofNat 16 (p.length + OVERHEAD)) VERSION tag ++ p ++ [frameCrc tag p, END]

/-- `TxWrite(f)` and how the operation goes on once the frame is accepted (R65): appended to `txh` as one frame, or `TransportFault` and not appended, or the operation holds. -/
def State.txWrite (f : List Byte) (s : State) (k : State → State) : State :=
  match s.txEnv with
  | .accept => k { s with txh := s.txh ++ [f] }
  | .fail => s.transportFault
  | .hold => s

/-- `Emit(tag, p)` (R151): it writes no register but the CRC working register. -/
def State.emit (tag : Byte) (p : List Byte) (s : State) (k : State → State) : State :=
  State.txWrite (frame tag p) { s with crcw := frameCrc tag p } k

/-- The hand-over of the one frame an operation ends with: when `TxWrite` returns, the frame is in `txh` and the operation is still running, with its completion as the next step (R18, R213). -/
def State.handOver (tag : Byte) (p : List Byte) (s : State) : State :=
  s.emit tag p fun s => { s with txDone := true }

/-- `SendAck(c)` is `Emit(TAG_ACK, [c])` (R14, R122). -/
def State.sendAck (c : Byte) (s : State) (k : State → State) : State :=
  s.emit s.cfg.tagAck [c] k

end Sys2Proof.Machine
end

