-- ==== Sys2Proof/Machine/Operands.lean ====
section
/-! DEFINITION. The operand forms (30_encoding.md R99 to R102, R110): the host operand in `TBUF`, the error code in `ARG`, the received payload in `PBUF`, and the packet length validator (42_decode.md R178, R190). -/

namespace Sys2Proof.Machine

/-- The operand `TBUF[0..TLEN-1]` of `CRC8`, `ENC_DATA`, `ENC_ECHO` (R137, R158, R162). -/
def State.operand (s : State) : List Byte := s.tbufRange s.tlen.toNat

/-- The operand check of R152: the payload fits a frame. -/
def State.operandFits (s : State) : Bool := s.tlen.toNat ≤ PAYLOAD_MAX

/-- `len_ok` of the length validator: an unsigned comparison with 7 (R190). -/
def lenOk (len : Half) : Bool := OVERHEAD ≤ len.toNat

/-- `plen` of the length validator, meaningful when `lenOk` (R100, R190). -/
def plenOf (len : Half) : Half := len - 7

/-- The received payload `PBUF[0..plen-1]` of a frame with length field `len` (R179). -/
def State.payload (len : Half) (s : State) : List Byte := s.pbufRange (plenOf len).toNat

/-- What the decoder checks the received crc against: `crc8` over the bytes as received, with the constants `0x00` and `0xBB` in the last two places (R181). -/
def State.expectedCrc (s : State) : Byte :=
  crc8 (headerBytes s.len s.ver s.typ ++ s.payload s.len ++ [0x00, END])

end Sys2Proof.Machine
end

