-- ==== Sys2Proof/Machine/Checksum.lean ====
section
/-! DEFINITION. The commands that touch no stream: `CRC8` (40_crc8.md R137) and the reserved code (30_encoding.md R111). -/

namespace Sys2Proof.Machine

/-- `CRC8` (R137): `RES_CRC <- crc8(TBUF[0..TLEN-1])`, through the working register (R31). -/
def execCrc8 (s : State) : Host.Outcome State Fault Refusal :=
  .next (State.finish .crcDone { s with crcw := crc8 s.operand, resCrc := crc8 s.operand })

/-- The reserved command code completes with `REJECTED` "and no other effect" (R111). -/
def execCmdReserved (s : State) : Host.Outcome State Fault Refusal :=
  .next (s.finish .rejected)

end Sys2Proof.Machine
end

