-- ==== Sys2Proof/Machine/AckCodes.lean ====
section
/-! DEFINITION. The receipt of an `ack` code byte, one meaning for each ACKCODE row (43_dispatch.md R203, 60_exceptions.md R221). -/

namespace Sys2Proof.Machine

/-- `RES_CODE <- c`, `RES_KIND` by the Error Code table, `RES_PLEN <- 0`, complete (R203). -/
def State.ackReceipt (c : Byte) (s : State) : State :=
  State.finish (if c.toNat ≤ 6 then .ack else .unknownAck) { s with resCode := c, resPlen := 0 }

/-- Code 0, "success" (R201). -/
def execAckNoError (s : State) : Host.Outcome State Fault Refusal := .next (s.ackReceipt ERR_NO_ERROR)

/-- Code 1, "CRC incorrect" (R201). -/
def execAckCrc (s : State) : Host.Outcome State Fault Refusal := .next (s.ackReceipt ERR_CRC)

/-- Code 2. -/
def execAckVersion (s : State) : Host.Outcome State Fault Refusal := .next (s.ackReceipt ERR_VERSION)

/-- Code 3. -/
def execAckEnding (s : State) : Host.Outcome State Fault Refusal := .next (s.ackReceipt ERR_ENDING)

/-- Code 4. -/
def execAckType (s : State) : Host.Outcome State Fault Refusal := .next (s.ackReceipt ERR_TYPE)

/-- Code 5; "receiving `ack(OPENED)` or `ack(CLOSED)` changes no state" beyond the result (R222). -/
def execAckOpened (s : State) : Host.Outcome State Fault Refusal := .next (s.ackReceipt ERR_OPENED)

/-- Code 6. -/
def execAckClosed (s : State) : Host.Outcome State Fault Refusal := .next (s.ackReceipt ERR_CLOSED)

/-- Codes 7 to 255: "generic "unknown ack" result carrying the raw byte" (R113). -/
def execAckUnknown (c : Byte) (s : State) : Host.Outcome State Fault Refusal := .next (s.ackReceipt c)

/-- The ACKCODE row that a code byte selects, run (R107, R203). -/
def runAckCode (c : Byte) (s : State) : Host.Outcome State Fault Refusal :=
  match c.toNat with
  | 0 => execAckNoError s
  | 1 => execAckCrc s
  | 2 => execAckVersion s
  | 3 => execAckEnding s
  | 4 => execAckType s
  | 5 => execAckOpened s
  | 6 => execAckClosed s
  | _ => execAckUnknown c s

end Sys2Proof.Machine
end

