-- ==== Sys2Proof/Machine/Receive.lean ====
section
/-! DEFINITION. The seven dispatch operations (43_dispatch.md R203 to R210) and their common entry (R200). -/

namespace Sys2Proof.Machine

/-- The entry of `Dispatch()`: a FRAME row applies only when the length field is 7 or more (R123), and `RES_TAG <- typ` comes first (R200). -/
def State.enterDispatch (len : Half) (typ : Byte) (s : State) (k : State → Host.Outcome State Fault Refusal) :
    Host.Outcome State Fault Refusal :=
  if lenOk len then k { s with resTag := typ } else .next s.malformedLength

/-- Results that offer the host no payload: `RES_PLEN <- 0` (R202). -/
def State.finishNoPayload (k : ResKind) (s : State) : State := State.finish k { s with resPlen := 0 }

/-- A reply frame, and when its `TxWrite` has returned the result, a step of its own: "Reply before result" (R213, R18). -/
def State.replyThenFinish (tag : Byte) (p : List Byte) (k : ResKind) (s : State) : State :=
  if s.txDone then s.finishNoPayload k else s.handOver tag p

/-- The unknown-type branch (R209): `FLAGS.TYPE`, `SendAck(4)`, and when it has returned `UNKNOWN_TYPE`. -/
def State.unknownType (s : State) : State :=
  if s.txDone then s.finishNoPayload .unknownType else (s.setFlag fTYPE).handOver s.cfg.tagAck [ERR_TYPE]

/-- `RX_DATA` (R205): the payload stays in `PBUF[0..plen-1]`. -/
def execRxData (len : Half) (_ver : Byte) (s : State) : Host.Outcome State Fault Refusal :=
  s.enterDispatch len s.cfg.tagData fun s => .next (State.finish .data { s with resPlen := plenOf len })

/-- `RX_ACK` (R203); with a payload that is not one byte, R204: `FLAGS.ACKFORM`, then no byte gives `UNKNOWN_ACK` with code 0, and of two or more the first is the code. -/
def execRxAck (len : Half) (_ver : Byte) (s : State) : Host.Outcome State Fault Refusal :=
  s.enterDispatch len s.cfg.tagAck fun s =>
    if plenOf len = 1 then runAckCode (s.pbufByte 0) s
    else if plenOf len = 0 then
      .next (State.finishNoPayload .unknownAck { s.setFlag fACKFORM with resCode := 0 })
    else runAckCode (s.pbufByte 0) (s.setFlag fACKFORM)

/-- `RX_OPEN` (R206): the reply is the canonical `open` frame. -/
def execRxOpen (len : Half) (_ver : Byte) (s : State) : Host.Outcome State Fault Refusal :=
  s.enterDispatch len TAG_OPEN fun s => .next (s.replyThenFinish TAG_OPEN [] .openFrame)

/-- `RX_CLOSE` (R207). -/
def execRxClose (len : Half) (_ver : Byte) (s : State) : Host.Outcome State Fault Refusal :=
  s.enterDispatch len s.cfg.tagClose fun s => .next (s.replyThenFinish s.cfg.tagClose [] .closeFrame)

/-- `RX_ECHO` (R208): "the reply is a data frame, not an echo frame". -/
def execRxEcho (len : Half) (_ver : Byte) (s : State) : Host.Outcome State Fault Refusal :=
  s.enterDispatch len s.cfg.tagEcho fun s => .next (s.replyThenFinish s.cfg.tagData (s.payload len) .echo)

/-- `RX_UNKNOWN` (R209). -/
def execRxUnknown (len : Half) (_ver : Byte) (typ : Byte) (s : State) : Host.Outcome State Fault Refusal :=
  s.enterDispatch len typ fun s => .next s.unknownType

/-- `RX_TEST` (R210): nothing is sent; with `TEST_KNOWN` false it is the unknown-type branch. -/
def execRxTest (len : Half) (_ver : Byte) (s : State) : Host.Outcome State Fault Refusal :=
  s.enterDispatch len s.cfg.tagTest fun s =>
    if s.cfg.testKnown then .next (s.finishNoPayload .test) else .next s.unknownType

/-- `Dispatch()` (R200): the one operation whose tag equals `typ`, or `RX_UNKNOWN`. -/
def dispatch (s : State) : Host.Outcome State Fault Refusal :=
  if s.typ = s.cfg.tagData then execRxData s.len s.ver s
  else if s.typ = s.cfg.tagAck then execRxAck s.len s.ver s
  else if s.typ = TAG_OPEN then execRxOpen s.len s.ver s
  else if s.typ = s.cfg.tagClose then execRxClose s.len s.ver s
  else if s.typ = s.cfg.tagEcho then execRxEcho s.len s.ver s
  else if s.typ = s.cfg.tagTest then execRxTest s.len s.ver s
  else execRxUnknown s.len s.ver s.typ s

end Sys2Proof.Machine
end

