-- ==== Sys2Proof/Machine/DecodeCmd.lean ====
section
/-! DEFINITION. `DECODE` (42_decode.md R171 to R185): one step of the receive sequencer for each state, a byte at a time (log 13). -/

namespace Sys2Proof.Machine

/-- A protocol fault is flagged and its `ack` becomes due: the operation is now inside the `TxWrite` of `SendAck(code)` (R230, R79). -/
def State.protocolFault (flag code : Byte) (s : State) : State :=
  { s.setFlag flag with ackPend := some code }

/-- The state after the one whose `ack` has been handed over (R24, R79). -/
def RxState.afterAck : RxState → RxState
  | .readVersion => .readType
  | .readCrc => .readEnd
  | .readEnd => .dispatch
  | st => st

/-- `SendAck(code)` inside `DECODE` returns, or holds, or faults (R79, R230). -/
def State.sendPendingAck (code : Byte) (s : State) : State :=
  s.sendAck code fun s => { s with ackPend := none, rxState := s.rxState.afterAck }

/-- `SEEK_START` (R172): the first `0xAA` ends the search; any other byte is dropped and counted. -/
def State.seekStart (s : State) : State :=
  s.rxRead fun b s =>
    if b = START then { s with rxState := .readLength, cnt := 0 }
    else { s.setFlag fRESYNC with discard := s.discard + 1 }

/-- `READ_LENGTH` (R174): two bytes, big-endian. -/
def State.readLength (s : State) : State :=
  s.rxRead fun b s =>
    if s.cnt = 0 then { s with len := ofBytes b 0, cnt := 1 }
    else { s with len := ofBytes (hiByte s.len) b, cnt := s.cnt + 1, rxState := .readVersion }

/-- `READ_VERSION` (R175, R176). -/
def State.readVersion (s : State) : State :=
  s.rxRead fun b s =>
    if b = VERSION then { s with ver := b, rxState := .readType }
    else State.protocolFault fVERSION ERR_VERSION { s with ver := b }

/-- `READ_TYPE` (R177): the byte is not judged here. -/
def State.readType (s : State) : State :=
  s.rxRead fun b s => { s with typ := b, rxState := .readPayload, cnt := 0 }

/-- `READ_PAYLOAD` (R178, R179): the length validator, then `plen` bytes into `PBUF` in arrival order. -/
def State.readPayload (s : State) : State :=
  if lenOk s.len then
    if s.cnt.toNat < (plenOf s.len).toNat then
      s.rxRead fun b s => { s with pbuf := s.pbuf.write s.cnt.toNat b, cnt := s.cnt + 1 }
    else { s with rxState := .readCrc }
  else s.malformedLength

/-- `READ_CRC` (R181, R182). -/
def State.readCrc (s : State) : State :=
  s.rxRead fun b s =>
    if b = s.expectedCrc then
      { s with rcrc := b, expc := s.expectedCrc, crcw := s.expectedCrc, rxState := .readEnd }
    else
      State.protocolFault fCRC ERR_CRC { s with rcrc := b, expc := s.expectedCrc, crcw := s.expectedCrc }

/-- `READ_END` (R183, R184): one byte is consumed whatever its value. -/
def State.readEnd (s : State) : State :=
  s.rxRead fun b s =>
    if b = END then { s with endb := b, rxState := .dispatch }
    else State.protocolFault fENDING ERR_ENDING { s with endb := b }

/-- `DECODE` (R171): the next step of the operation. -/
def execDecode (s : State) : Host.Outcome State Fault Refusal :=
  match s.ackPend with
  | some code => .next (s.sendPendingAck code)
  | none =>
    match s.rxState with
    | .idle => .next { s with rxState := .seekStart }
    | .seekStart => .next s.seekStart
    | .readLength => .next s.readLength
    | .readVersion => .next s.readVersion
    | .readType => .next s.readType
    | .readPayload => .next s.readPayload
    | .readCrc => .next s.readCrc
    | .readEnd => .next s.readEnd
    | .dispatch => dispatch s

end Sys2Proof.Machine
end

