-- ==== Sys2Proof/Machine/EncodeCmds.lean ====
section
/-! DEFINITION. The five encode commands (41_encode.md R158 to R162): each builds one frame, hands it over in one `TxWrite`, and completes with `SENT` (R150, R153). -/

namespace Sys2Proof.Machine

/-- `Emit(tag, p)`; when it has returned, `RES_KIND <- SENT; complete` (R151, R153), a step of its own (R18). -/
def State.emitAndFinish (tag : Byte) (p : List Byte) (s : State) : State :=
  if s.txDone then s.finish .sent else s.handOver tag p

/-- The operand check, then the emission of the operand under `tag` (R152, R158, R162). -/
def State.emitOperand (tag : Byte) (s : State) : State :=
  if s.operandFits then s.emitAndFinish tag s.operand else s.finish .rejected

/-- `ENC_DATA` (R158). -/
def execEncData (s : State) : Host.Outcome State Fault Refusal :=
  .next (s.emitOperand s.cfg.tagData)

/-- `ENC_ACK` (R159): "any 8-bit value" of `ARG` is sent unchanged. -/
def execEncAck (s : State) : Host.Outcome State Fault Refusal :=
  .next (s.emitAndFinish s.cfg.tagAck [s.arg])

/-- `ENC_OPEN` (R160). -/
def execEncOpen (s : State) : Host.Outcome State Fault Refusal :=
  .next (s.emitAndFinish TAG_OPEN [])

/-- `ENC_CLOSE` (R161). -/
def execEncClose (s : State) : Host.Outcome State Fault Refusal :=
  .next (s.emitAndFinish s.cfg.tagClose [])

/-- `ENC_ECHO` (R162): "it differs from `ENC_DATA` in the type byte only". -/
def execEncEcho (s : State) : Host.Outcome State Fault Refusal :=
  .next (s.emitOperand s.cfg.tagEcho)

end Sys2Proof.Machine
end

