-- ==== Sys2Proof/Machine/Dispatch.lean ====
section
/-! DEFINITION. One arm for each constructor of Instr: the meaning of every row of the opcode table. -/

namespace Sys2Proof.Machine

def exec (i : Instr) (s : State) : Host.Outcome State Fault Refusal :=
  match i with
  | .crc8 => Sys2Proof.Machine.execCrc8 s
  | .encData => Sys2Proof.Machine.execEncData s
  | .encAck => Sys2Proof.Machine.execEncAck s
  | .encOpen => Sys2Proof.Machine.execEncOpen s
  | .encClose => Sys2Proof.Machine.execEncClose s
  | .encEcho => Sys2Proof.Machine.execEncEcho s
  | .decode => Sys2Proof.Machine.execDecode s
  | .cmdReserved => Sys2Proof.Machine.execCmdReserved s
  | .rxData len ver => Sys2Proof.Machine.execRxData len ver s
  | .rxAck len ver => Sys2Proof.Machine.execRxAck len ver s
  | .rxOpen len ver => Sys2Proof.Machine.execRxOpen len ver s
  | .rxClose len ver => Sys2Proof.Machine.execRxClose len ver s
  | .rxEcho len ver => Sys2Proof.Machine.execRxEcho len ver s
  | .rxTest len ver => Sys2Proof.Machine.execRxTest len ver s
  | .rxUnknown len ver typ => Sys2Proof.Machine.execRxUnknown len ver typ s
  | .ackNoError => Sys2Proof.Machine.execAckNoError s
  | .ackCrc => Sys2Proof.Machine.execAckCrc s
  | .ackVersion => Sys2Proof.Machine.execAckVersion s
  | .ackEnding => Sys2Proof.Machine.execAckEnding s
  | .ackType => Sys2Proof.Machine.execAckType s
  | .ackOpened => Sys2Proof.Machine.execAckOpened s
  | .ackClosed => Sys2Proof.Machine.execAckClosed s
  | .ackUnknown code => Sys2Proof.Machine.execAckUnknown code s

end Sys2Proof.Machine
end

