-- ==== Sys2Proof/Machine/HostPort.lean ====
section
/-! DEFINITION. The outside world's turns: the HOST's writes and reads (10_state.md R33 to R38), RXENV and TXENV (R20), the pin `rst` (70_reset_and_hazards.md R260 to R262), and the block's own port outputs (20_memory.md R60, R64). -/

namespace Sys2Proof.Machine

/-- The value of `op` for a command (R23); the other two groups are no commands. -/
def opOfInstr : Instr → Op
  | .crc8 => .crc8
  | .encData => .encData
  | .encAck => .encAck
  | .encOpen => .encOpen
  | .encClose => .encClose
  | .encEcho => .encEcho
  | .decode => .decode
  | .cmdReserved => .reserved
  | .rxData _ _ | .rxAck _ _ | .rxOpen _ _ | .rxClose _ _ | .rxEcho _ _ | .rxTest _ _ | .rxUnknown _ _ _ => .none
  | .ackNoError | .ackCrc | .ackVersion | .ackEnding | .ackType | .ackOpened | .ackClosed | .ackUnknown _ => .none

/-- The acceptance of command code `c` (R34); a `DECODE` starts in `SEEK_START` (R24). -/
def State.accept (c : BitVec 3) (s : State) : State :=
  { s with
    status := sBUSY, flags := 0, resKind := .none, resCode := 0, resTag := 0, resPlen := 0, resCrc := 0, discard := 0
    op := opOfInstr (decodeCmd c)
    rxState := if opOfInstr (decodeCmd c) = .decode then .seekStart else .idle
    ackPend := none, txDone := false }

/-- Whether a host write takes effect: not while an operation runs (R37), not while `rst` is asserted (R260). -/
def State.writable (s : State) : Bool := !s.busy && !s.rst

/-- The current value of a host register, on 32 bits (R33); none where there is nothing to read. -/
def State.regValue (r : HostReg) (s : State) : Option (BitVec 32) :=
  match r with
  | .cmd => none
  | .arg => some (s.arg.setWidth 32)
  | .tlen => some (s.tlen.setWidth 32)
  | .tbuf i => some ((s.tbufByte i).setWidth 32)
  | .status => some (s.status.setWidth 32)
  | .flags => some (s.flags.setWidth 32)
  | .resKind => some (s.resKind.code.setWidth 32)
  | .resCode => some (s.resCode.setWidth 32)
  | .resTag => some (s.resTag.setWidth 32)
  | .resPlen => some (s.resPlen.setWidth 32)
  | .resCrc => some (s.resCrc.setWidth 32)
  | .discard => some s.discardReg
  | .pbuf i => some ((s.pbufByte i).setWidth 32)

/-- The number of a host register (R33). -/
def HostReg.number : HostReg → Nat
  | .cmd => 0
  | .arg => 1
  | .tlen => 2
  | .tbuf _ => 3
  | .status => 4
  | .flags => 5
  | .resKind => 6
  | .resCode => 7
  | .resTag => 8
  | .resPlen => 9
  | .resCrc => 10
  | .discard => 11
  | .pbuf _ => 12

/-- The width of a host register, of one byte for the buffers (R33). -/
def HostReg.width : HostReg → Nat
  | .cmd => 3
  | .tlen | .resPlen => 16
  | .status => 2
  | .resKind => 4
  | .discard => 32
  | .arg | .tbuf _ | .flags | .resCode | .resTag | .resCrc | .pbuf _ => 8

/-- The registers that are guaranteed only when no operation runs (R38). -/
def HostReg.isResult : HostReg → Bool
  | .flags | .resKind | .resCode | .resTag | .resPlen | .resCrc | .discard | .pbuf _ => true
  | .cmd | .arg | .tlen | .tbuf _ | .status => false

/-- Whether a buffer register's index exists (R40, R41). -/
def HostReg.inRange : HostReg → Bool
  | .tbuf i => i < TBUF_SIZE
  | .pbuf i => i < PBUF_SIZE
  | _ => true

/-- A host read: no effect on the block (R38); a result register read while `BUSY = 1` returns a free value of its width (U7; log 15). -/
def hostRead (r : HostReg) (s : State) : Host.Outcome State Fault Refusal :=
  if r.inRange then
    match s.regValue r with
    | none => .fault .notReadable
    | some v =>
      if r.isResult && s.busy then
        .next { s with hostRd := some (BitVec.ofNat 32 ((Config.freeRead s.draws).toNat % 2 ^ r.width)), draws := s.draws + 1 }
      else .next { s with hostRd := some v }
  else .fault .noSuchIndex

/-- One HOST turn (R21). A write while the block is busy "is ignored: no register changes, no operation starts, nothing is queued" (R37). -/
def hostTurn (a : HostAct) (s : State) : Host.Outcome State Fault Refusal :=
  match a with
  | .writeCmd c => .next (if s.writable then s.accept c else s)
  | .writeArg v => .next (if s.writable then { s with arg := v } else s)
  | .writeTlen v => .next (if s.writable then { s with tlen := v } else s)
  | .writeTbuf i v =>
    if i < TBUF_SIZE then .next (if s.writable then { s with tbuf := s.tbuf.write i v } else s)
    else .fault .noSuchIndex
  | .read r => hostRead r s

/-- One RXENV turn (R61, R47). -/
def rxTurn (a : RxAct) (s : State) : State :=
  match a with
  | .deliver b => { s with rxq := s.rxq ++ [b] }
  | .fail => { s with rxFault := true }
  | .recover => { s with rxFault := false }

/-- The registers at their reset values, the buffers unspecified (R260); `rxq` and `txh` untouched (R262). -/
def State.resetRegs (s : State) : State :=
  { s with
    op := .none, rxState := .idle, cnt := 0, ackPend := none, txDone := false
    len := 0, ver := 0, typ := 0, rcrc := 0, expc := 0, endb := 0, discard := 0, crcw := 0
    arg := 0, tlen := 0, tbuf := s.tbuf.forget
    status := sRESET, flags := 0, resKind := .none, resCode := 0, resTag := 0, resPlen := 0, resCrc := 0
    pbuf := s.pbuf.forget }

/-- The pin `rst` changes level: asserting it resets the block, also in the middle of an operation (R260, R261). -/
def rstTurn (level : Bool) (s : State) : State :=
  if level then { s.resetRegs with rst := true } else { s with rst := false }

/-! ### Port outputs -/

/-- Whether the operation is inside `RxRead` (R60, R73). -/
def State.rxReady (s : State) : Bool :=
  if s.op = .decode && s.ackPend.isNone && !s.rst then
    match s.rxState with
    | .seekStart | .readLength | .readVersion | .readType | .readCrc | .readEnd => true
    | .readPayload => lenOk s.len && s.cnt.toNat < (plenOf s.len).toNat
    | .idle | .dispatch => false
  else false

/-- The frame that dispatch offers for `typ`, if any (R212). -/
def State.replyFrame (s : State) : Option (List Byte) :=
  if s.typ = s.cfg.tagData then none
  else if s.typ = s.cfg.tagAck then none
  else if s.typ = TAG_OPEN then some (frame TAG_OPEN [])
  else if s.typ = s.cfg.tagClose then some (frame s.cfg.tagClose [])
  else if s.typ = s.cfg.tagEcho then some (frame s.cfg.tagData (s.payload s.len))
  else if s.typ = s.cfg.tagTest && s.cfg.testKnown then none
  else some (frame s.cfg.tagAck [ERR_TYPE])

/-- The frame that an operation ends with, if it sends one (R150, R212). -/
def State.finalFrame (s : State) : Option (List Byte) :=
  match s.op with
  | .encData => if s.operandFits then some (frame s.cfg.tagData s.operand) else none
  | .encEcho => if s.operandFits then some (frame s.cfg.tagEcho s.operand) else none
  | .encAck => some (frame s.cfg.tagAck [s.arg])
  | .encOpen => some (frame TAG_OPEN [])
  | .encClose => some (frame s.cfg.tagClose [])
  | .decode => if s.rxState = .dispatch && lenOk s.len then s.replyFrame else none
  | .none | .crc8 | .reserved => none

/-- The frame offered at the transmit port while the operation is inside `TxWrite` (R64, R65): a fault `ack` that is due, or the frame the operation ends with until it has been handed over. -/
def State.txOffer (s : State) : Option (List Byte) :=
  if s.rst then none
  else match s.op, s.ackPend with
    | .decode, some c => some (frame s.cfg.tagAck [c])
    | _, _ => if s.txDone then none else s.finalFrame

/-- `rx_valid`: a byte is offered (R60). -/
def State.rxValid (s : State) : Bool := !s.rxq.isEmpty

/-- `tx_valid` (R64, R260). -/
def State.txValid (s : State) : Bool := s.txOffer.isSome

/-- The bytes of a frame as they cross the transmit port, in frame order, each with `tx_last` (R64). -/
def txBeats : List Byte → List (Byte × Bool)
  | [] => []
  | [b] => [(b, true)]
  | b :: c :: rest => (b, false) :: txBeats (c :: rest)

end Sys2Proof.Machine
end

