-- ==== Sys2Proof/Machine/Fetch.lean ====
section
/-! DEFINITION. What selects the block's next operation (10_state.md R23): `op`, and in `DISPATCH` the header received (43_dispatch.md R200); and how a word of the opcode table is put in that place. -/

namespace Sys2Proof.Machine

/-- The header bytes of the frame being decoded, from the registers that hold them. -/
def State.headerCode (s : State) : Code := .header (headerBytes s.len s.ver s.typ)

/-- The operation the block runs next; none while it is idle or held in reset. In `DISPATCH` the decoder reads the received header; a header it rejects leaves the `DECODE` command itself in charge (log 21). -/
def State.fetch (s : State) : Option Instr :=
  if s.rst then none
  else match s.op with
    | .none => none
    | .crc8 => some .crc8
    | .encData => some .encData
    | .encAck => some .encAck
    | .encOpen => some .encOpen
    | .encClose => some .encClose
    | .encEcho => some .encEcho
    | .reserved => some .cmdReserved
    | .decode =>
      if s.rxState = .dispatch && s.ackPend.isNone then
        match Sys2Proof.decode s.cfg s.headerCode with
        | .ok i => some i
        | .error _ => some .decode
      else some .decode

/-- The block in the state in which a word of one of the three encodings is the next thing it runs (log 18): a command as its acceptance leaves it (R34); a received header in `DISPATCH` (R200); a code byte as the one payload byte of an `ack` frame in `DISPATCH`. -/
def State.withCode (code : Code) (s : State) : State :=
  match code with
  | .cmd c => s.accept c
  | .header [start, l1, l0, ver, typ] =>
    if start = START then { s.accept 6 with rxState := .dispatch, len := ofBytes l1 l0, ver := ver, typ := typ }
    else s
  | .header _ => s
  | .ackCode c =>
    { s.accept 6 with
      rxState := .dispatch, len := 8, ver := VERSION, typ := s.cfg.tagAck, pbuf := s.pbuf.write 0 c }

end Sys2Proof.Machine
end

