-- ==== Sys2Proof/Machine/Step.lean ====
section
/-! DEFINITION. One step of the machine: the agent whose turn it is moves (10_state.md R20). -/

namespace Sys2Proof.Machine

/-- CODEC's turn: the operation it runs next, or nothing while it is idle (R23). -/
def codecTurn (s : State) : Host.Outcome State Fault Refusal :=
  match s.fetch with
  | some i => exec i s
  | none => .next s

/-- One turn of one agent. -/
def takeTurn (t : Turn) (s : State) : Host.Outcome State Fault Refusal :=
  match t with
  | .codec => codecTurn s
  | .host a => hostTurn a s
  | .rx a => .next (rxTurn a s)
  | .tx a => .next { s with txEnv := a }
  | .rst level => .next (rstTurn level s)

/-- One step: the first turn listed; with none listed, CODEC's (log 3). -/
def step (s : State) : Host.Outcome State Fault Refusal :=
  match s.sched with
  | [] => codecTurn s
  | t :: rest => takeTurn t { s with sched := rest }

/-- `s` with the opcode-table word `w` as the next thing the block runs, and CODEC's turn before the turns already listed (log 18). -/
def State.withFetchWord (s : State) (nbits w : Nat) : State :=
  match codeOfTableWord nbits w with
  | some code => { s.withCode code with rst := false, sched := .codec :: s.sched }
  | none => s

end Sys2Proof.Machine
end

