-- ==== Sys2Proof/Safety.lean ====
section
/-! DEFINITION. The terms that claims are made in: well-formed frames (30_encoding.md R98), the invariants of the block (10_state.md R23 to R36, 60_exceptions.md R224, R228), and the bytes a `DECODE` has consumed (42_decode.md R186). -/

namespace Sys2Proof

/-- A frame is well formed (R98): start marker, a length field that counts the bytes and is at least 7, the version byte, the crc of R96, the end marker. -/
structure FrameWellFormed (f : List Byte) : Prop where
  atLeast7 : OVERHEAD ≤ f.length
  start    : f.getD 0 0 = START
  length   : (ofBytes (f.getD 1 0) (f.getD 2 0)).toNat = f.length
  version  : f.getD 3 0 = VERSION
  crc      : f.getD (f.length - 2) 0 = Machine.crc8 (f.take (f.length - 2) ++ [0x00, END])
  last     : f.getD (f.length - 1) 0 = END

namespace Machine

/-- The states of `DECODE` from `READ_CRC` on: the length validator has passed and the payload is in `PBUF`. -/
def RxState.pastPayload : RxState → Bool
  | .readCrc | .readEnd | .dispatch => true
  | .idle | .seekStart | .readLength | .readVersion | .readType | .readPayload => false

/-- The states of `DECODE` from `READ_TYPE` on: the version byte has been judged. -/
def RxState.pastVersion : RxState → Bool
  | .readType | .readPayload | .readCrc | .readEnd | .dispatch => true
  | .idle | .seekStart | .readLength | .readVersion => false

/-- The place of a state in the sequence of R24. -/
def RxState.rank : RxState → Nat
  | .idle => 0
  | .seekStart => 1
  | .readLength => 2
  | .readVersion => 3
  | .readType => 4
  | .readPayload => 5
  | .readCrc => 6
  | .readEnd => 7
  | .dispatch => 8

/-- The kinds that a dispatch operation writes (R36). -/
def ResKind.dispatched : ResKind → Bool
  | .data | .ack | .unknownAck | .openFrame | .closeFrame | .echo | .test | .unknownType => true
  | .none | .badLength | .transportErr | .sent | .crcDone | .rejected => false

/-- The kinds of a received `ack` (R203). -/
abbrev ResKind.isAck (k : ResKind) : Prop := k = .ack ∨ k = .unknownAck

/-- Whether `typ` is no kind that dispatch recognises: none of the six tags, or `TAG_TEST` without `TEST_KNOWN` (R209, R210). -/
abbrev State.typeUnknown (s : State) : Prop :=
  s.typ ∉ [s.cfg.tagData, s.cfg.tagAck, TAG_OPEN, s.cfg.tagClose, s.cfg.tagEcho] ∧ ¬ (s.typ = s.cfg.tagTest ∧ s.cfg.testKnown = true)

/-- The first `n` bytes of `PBUF` have been written since its contents were last unspecified, so that reading them gives no free value. -/
def State.payloadWritten (s : State) (n : Nat) : Prop := ∀ a < n, (s.pbuf.get? a).isSome

/-- The invariant of the sequencer, the buffers and the result registers. -/
structure Inv (s : State) : Prop where
  /-- `STATUS` never has both bits set (R35). -/
  statusLegal : s.status = sRESET ∨ s.status = sBUSY ∨ s.status = sDONE
  /-- `op` is `NONE` exactly when `STATUS.BUSY = 0` (R23). -/
  opBusy : s.op = .none ↔ s.status ≠ sBUSY
  /-- `rx_state` is `IDLE` exactly while no `DECODE` runs (R23). -/
  rxIdle : s.rxState = .idle ↔ s.op ≠ .decode
  /-- The buffers are in canonical form and list only indices that exist (R40, R41). -/
  tbufWf : s.tbuf.wf
  pbufWf : s.pbuf.wf
  tbufWithin : s.tbuf.within TBUF_SIZE
  pbufWithin : s.pbuf.within PBUF_SIZE
  /-- Only a validated length gets past `READ_PAYLOAD` (R178). -/
  lenPast : s.rxState.pastPayload = true → lenOk s.len = true
  /-- `cnt` counts the two length bytes (R25). -/
  cntLength : s.rxState = .readLength → s.cnt.toNat ≤ 1
  /-- `cnt` counts the payload bytes, never past `plen` (R25). -/
  cntPayload : s.rxState = .readPayload → lenOk s.len = true → s.cnt.toNat ≤ (plenOf s.len).toNat
  /-- A length that is not 7 or more stores nothing (R178). -/
  cntMalformed : s.rxState = .readPayload → lenOk s.len = false → s.cnt = 0
  /-- The payload bytes counted have been stored (R179). -/
  payloadSoFar : s.rxState = .readPayload → s.payloadWritten s.cnt.toNat
  payloadWhole : s.rxState.pastPayload = true → s.payloadWritten (plenOf s.len).toNat
  /-- A fault `ack` is due only in the state that found the fault, with that fault's code (R224). -/
  ackDue : ∀ c, s.ackPend = some c →
    (s.rxState = .readVersion ∧ c = ERR_VERSION) ∨ (s.rxState = .readCrc ∧ c = ERR_CRC) ∨ (s.rxState = .readEnd ∧ c = ERR_ENDING)
  /-- A frame has been handed over with the completion still to come only in an encode command, or in `DISPATCH` (R18, R213). -/
  sentWhere : s.txDone = true →
    s.op ∈ [Op.encData, .encAck, .encOpen, .encClose, .encEcho] ∨ (s.op = .decode ∧ s.rxState = .dispatch ∧ s.ackPend = none)
  /-- While an operation runs the result registers it will write are clear (R34). -/
  busyClear : s.status = sBUSY → s.resKind = .none ∧ s.resCode = 0 ∧ s.resPlen = 0 ∧ s.resCrc = 0
  /-- An operation that has completed has written a kind (R36). -/
  doneKind : s.status = sDONE → s.resKind ≠ .none
  /-- Only a `DATA` result offers payload bytes (R202). -/
  plenData : s.resPlen ≠ 0 → s.resKind = .data

/-- The invariant of `FLAGS` (R32, R224, R228). -/
structure FlagsInv (s : State) : Prop where
  /-- `RESYNC` is set exactly when a byte was dropped (R172). -/
  resync : s.hasFlag fRESYNC = true ↔ s.discard ≠ 0
  /-- Nothing past the version check is flagged before `READ_CRC` (R228). -/
  early : s.op = .decode → s.rxState.pastPayload = false → s.flags &&& (fCRC ||| fENDING ||| fTYPE ||| fLENGTH ||| fACKFORM ||| fTRANSPORT) = 0
  /-- While a `DECODE` runs neither fault that ends it is flagged (R233, R238). -/
  running : s.op = .decode → s.flags &&& (fLENGTH ||| fTRANSPORT ||| fACKFORM) = 0
  /-- No other operation has set a flag before it completes (R32). -/
  notDecode : s.op ≠ .decode → s.status = sBUSY → s.flags = 0
  /-- `op` is `NONE` exactly when `STATUS.BUSY = 0` (R23). -/
  opBusy : s.op = .none ↔ s.status ≠ sBUSY
  /-- While an operation runs no kind has been written (R34). -/
  busyKind : s.status = sBUSY → s.resKind = .none
  /-- `rx_state` is `IDLE` exactly while no `DECODE` runs (R23). -/
  rxIdle : s.rxState = .idle ↔ s.op ≠ .decode
  /-- Only a validated length gets past `READ_PAYLOAD` (R178). -/
  lenPast : s.rxState.pastPayload = true → lenOk s.len = true
  /-- `LENGTH` goes with `BAD_LENGTH` and excludes every later fault (R228). -/
  lengthKind : s.hasFlag fLENGTH = true ↔ s.resKind = .badLength
  lengthAlone : s.hasFlag fLENGTH = true → s.flags &&& (fCRC ||| fENDING ||| fTYPE ||| fACKFORM ||| fTRANSPORT) = 0
  /-- `TRANSPORT` goes with `TRANSPORT_ERR` (R238). -/
  transportKind : s.hasFlag fTRANSPORT = true ↔ s.resKind = .transportErr
  /-- A `DECODE` has handed over the frame it ends with only in `DISPATCH` (R213). -/
  sentWhere : s.op = .decode → s.txDone = true → s.rxState = .dispatch
  /-- `TYPE` is set only for a type byte that dispatch does not recognise, and never before `DISPATCH` (R209, R224). -/
  typeCause : s.hasFlag fTYPE = true →
    s.typeUnknown ∧ (s.resKind = .unknownType ∨ s.resKind = .transportErr ∨ (s.op = .decode ∧ s.rxState = .dispatch))
  /-- From the hand-over of the reply on, and in every result of dispatch, `TYPE` is set exactly for such a byte (R224). -/
  typeSent : s.op = .decode → s.txDone = true → (s.hasFlag fTYPE = true ↔ s.typeUnknown)
  typeKind : s.resKind.dispatched = true → (s.hasFlag fTYPE = true ↔ s.typeUnknown)
  /-- The result is `UNKNOWN_TYPE` exactly when `TYPE` is set (R209, R224). -/
  typeResult : s.resKind.dispatched = true → (s.resKind = .unknownType ↔ s.hasFlag fTYPE = true)
  /-- Every result of dispatch carries the type byte received (R200). -/
  tagResult : s.resKind.dispatched = true → s.resTag = s.typ
  /-- `ACKFORM` is set exactly when an `ack` result came from a payload that is not one byte (R204, R224). -/
  ackForm : s.hasFlag fACKFORM = true ↔ s.resKind.isAck ∧ plenOf s.len ≠ 1
  /-- An `ack` result comes from a frame of type `TAG_ACK` (R203). -/
  ackKind : s.resKind.isAck → s.typ = s.cfg.tagAck
  /-- The fault whose `ack` is due has been flagged (R230). -/
  dueVersion : s.rxState = .readVersion → (s.hasFlag fVERSION = true ↔ s.ackPend.isSome = true)
  dueCrc : s.rxState = .readCrc → (s.hasFlag fCRC = true ↔ s.ackPend.isSome = true)
  dueEnding : s.rxState = .readEnd → (s.hasFlag fENDING = true ↔ s.ackPend.isSome = true)
  /-- No `ack` is due where none can be (R224). -/
  dueWhere : s.ackPend.isSome = true → s.rxState = .readVersion ∨ s.rxState = .readCrc ∨ s.rxState = .readEnd
  notYetVersion : s.rxState = .seekStart ∨ s.rxState = .readLength → s.hasFlag fVERSION = false
  notYetEnding : s.rxState = .readCrc → s.hasFlag fENDING = false
  /-- A fault `ack` that is due is that of a fault found in the byte just read. -/
  versionDue : s.rxState = .readVersion → s.ackPend.isSome = true → s.ver ≠ VERSION
  crcDue : s.rxState = .readCrc → s.ackPend.isSome = true → s.rcrc ≠ s.expc
  endingDue : s.rxState = .readEnd → s.ackPend.isSome = true → s.endb ≠ END
  /-- Once its state is past, each protocol fault is flagged exactly when its byte was wrong (R176, R182, R184). -/
  version : s.rxState.pastVersion = true → (s.hasFlag fVERSION = true ↔ s.ver ≠ VERSION)
  crc : s.rxState = .readEnd ∨ s.rxState = .dispatch → (s.hasFlag fCRC = true ↔ s.rcrc ≠ s.expc)
  ending : s.rxState = .dispatch → (s.hasFlag fENDING = true ↔ s.endb ≠ END)

/-- How many bytes the running `DECODE` has consumed (R186). -/
def State.consumed (s : State) : Nat :=
  s.discard + (if s.ackPend.isSome then 1 else 0) +
    match s.rxState with
    | .idle | .seekStart => 0
    | .readLength => 1 + s.cnt.toNat
    | .readVersion => 3
    | .readType => 4
    | .readPayload => 5 + s.cnt.toNat
    | .readCrc => 5 + (plenOf s.len).toNat
    | .readEnd => 6 + (plenOf s.len).toNat
    | .dispatch => 7 + (plenOf s.len).toNat

end Machine

end Sys2Proof
end

