-- ==== Sys2Proof/Certificates/Slice0/Obligations.lean ====
section
/-! DEFINITION. The statements about the model, for the provers. A docstring says which rule of spec/ a statement formalises; where it says "log n", that clause is the model's choice, notes/assumptions/n.md. -/

open Sys2Proof Sys2Proof.Machine

/-- O1 (30_encoding.md §1 to §5 (R90, R105 to R110, R123)). Under any parameters whose six tags are pairwise distinct, for every well-formed instruction of the three groups, with every operand value, decode of encode is the instruction. -/
def Obligations.DecodeOfEncodeIsTheInstruction : Prop :=
  ∀ (c : Config) (i : Instr), c.distinct → WellFormed c i → decode c (encode c i) = .ok i

/-- O2 (30_encoding.md §1 to §5 (R90, R105 to R110, R123)). Whatever word of the three encodings the decoder accepts, the instruction it reads is well formed and encodes to that same word; no distinctness of the tags is needed. -/
def Obligations.EncodeOfDecodeIsTheWord : Prop :=
  ∀ (c : Config) (code : Code) (i : Instr), decode c code = .ok i → WellFormed c i ∧ encode c i = code

/-- O3 (30_encoding.md R105, R107, R110, R111; 60_exceptions.md R221). All eight command codes 0 to 7, a header for each of the six tags and for one unknown type byte, the code bytes 00 to 06 and two unknown ones decode, under the default tags of R9, to the instructions their rows name. -/
def Obligations.SpecWordsDecodeAsWritten : Prop :=
  [decode Config.default (.cmd 0b000), decode Config.default (.cmd 0b001), decode Config.default (.cmd 0b010), decode Config.default (.cmd 0b011),
   decode Config.default (.cmd 0b100), decode Config.default (.cmd 0b101), decode Config.default (.cmd 0b110), decode Config.default (.cmd 0b111)] =
    [.ok .crc8, .ok .encData, .ok .encAck, .ok .encOpen, .ok .encClose, .ok .encEcho, .ok .decode, .ok .cmdReserved] ∧
  decode Config.default (.header [0xAA, 0x00, 0x09, 0x02, 0x64]) = .ok (.rxData 9 2) ∧
  decode Config.default (.header [0xAA, 0x01, 0x08, 0x02, 0x61]) = .ok (.rxAck 264 2) ∧
  decode Config.default (.header [0xAA, 0x00, 0x07, 0x02, 0x6F]) = .ok (.rxOpen 7 2) ∧
  decode Config.default (.header [0xAA, 0x00, 0x07, 0x02, 0x63]) = .ok (.rxClose 7 2) ∧
  decode Config.default (.header [0xAA, 0x00, 0x0A, 0x02, 0x65]) = .ok (.rxEcho 10 2) ∧
  decode Config.default (.header [0xAA, 0x00, 0x07, 0x03, 0x74]) = .ok (.rxTest 7 3) ∧
  decode Config.default (.header [0xAA, 0x00, 0x09, 0x02, 0x7A]) = .ok (.rxUnknown 9 2 0x7A) ∧
  [decode Config.default (.ackCode 0x00), decode Config.default (.ackCode 0x01), decode Config.default (.ackCode 0x02), decode Config.default (.ackCode 0x03),
   decode Config.default (.ackCode 0x04), decode Config.default (.ackCode 0x05), decode Config.default (.ackCode 0x06), decode Config.default (.ackCode 0x07),
   decode Config.default (.ackCode 0xFF)] =
    [.ok .ackNoError, .ok .ackCrc, .ok .ackVersion, .ok .ackEnding, .ok .ackType, .ok .ackOpened, .ok .ackClosed, .ok (.ackUnknown 0x07), .ok (.ackUnknown 0xFF)]

/-- O4 (30_encoding.md R91, R114, R123). For any five bytes: a first byte other than 0xAA is rejected as badStart; with 0xAA first, a big-endian length field of 0 to 6 is rejected as malformedLength and any other length decodes to some instruction, whatever the version and type bytes. -/
def Obligations.HeadersAreRejectedByStartAndLength : Prop :=
  ∀ (c : Config) (start l1 l0 ver typ : Byte),
    (start ≠ 0xAA → decode c (.header [start, l1, l0, ver, typ]) = .error .badStart) ∧
    (l1.toNat * 256 + l0.toNat < 7 → decode c (.header [0xAA, l1, l0, ver, typ]) = .error .malformedLength) ∧
    (7 ≤ l1.toNat * 256 + l0.toNat → ∃ i, decode c (.header [0xAA, l1, l0, ver, typ]) = .ok i)

/-- O5 (R100). The 16-bit value of two received bytes is 256 times the first plus the second, its high and low bytes are those two bytes, and when it is 7 or more plen is it minus 7, with nothing lost by the 16-bit subtraction. -/
def Obligations.LengthFieldIsBigEndian : Prop :=
  (∀ b0 b1 : Byte, (ofBytes b0 b1).toNat = b0.toNat * 256 + b1.toNat ∧ hiByte (ofBytes b0 b1) = b0 ∧ loByte (ofBytes b0 b1) = b1) ∧
  (∀ len : Half, (lenOk len = true ↔ 7 ≤ len.toNat) ∧ (lenOk len = true → (plenOf len).toNat = len.toNat - 7))

/-- O6 (40_crc8.md R133). For every byte c: with bit 7 set the step gives (c << 1) xor 0x07, else c << 1; and the eight bits of the result are c7, c0^c7, c1^c7, c2, c3, c4, c5, c6, the form that R133 itself marks [derived: the per-bit form, from the pseudocode and 0x07 = 0b00000111]. -/
def Obligations.CrcBitStepPerBit : Prop :=
  ∀ c : Byte,
    (c.getLsbD 7 = true → crcBit c = (c <<< 1) ^^^ 0x07) ∧ (c.getLsbD 7 = false → crcBit c = c <<< 1) ∧
    (crcBit c).getLsbD 0 = c.getLsbD 7 ∧ (crcBit c).getLsbD 1 = (c.getLsbD 0 ^^ c.getLsbD 7) ∧
    (crcBit c).getLsbD 2 = (c.getLsbD 1 ^^ c.getLsbD 7) ∧ (crcBit c).getLsbD 3 = c.getLsbD 2 ∧
    (crcBit c).getLsbD 4 = c.getLsbD 3 ∧ (crcBit c).getLsbD 5 = c.getLsbD 4 ∧
    (crcBit c).getLsbD 6 = c.getLsbD 5 ∧ (crcBit c).getLsbD 7 = c.getLsbD 6

/-- O7 (R130, R131, R132). crc8 of the empty sequence is 0x00; appending a byte b to any sequence s gives the byte update of crc8 s with b; the byte update XORs b in and then makes exactly eight bit steps. -/
def Obligations.Crc8FoldsTheByteUpdate : Prop :=
  crc8 [] = 0x00 ∧ (∀ (s : List Byte) (b : Byte), crc8 (s ++ [b]) = crcByte (crc8 s) b) ∧
  (∀ c b : Byte, crcByte c b = crcBit (crcBit (crcBit (crcBit (crcBit (crcBit (crcBit (crcBit (c ^^^ b)))))))))

/-- O8 (40_crc8.md R139, R135, R138). For byte sequences a and b, crc8 of a followed by b is the fold over b, started from crc8 a, of the table entry T[c xor x] for the byte update of 0x00; and crc8 of n zero bytes followed by b is crc8 b. -/
def Obligations.CrcAppendLaw : Prop :=
  (∀ a b : List Byte, crc8 (a ++ b) = b.foldl (fun c x => crcByte 0x00 (c ^^^ x)) (crc8 a)) ∧
  (∀ (n : Nat) (b : List Byte), crc8 (List.replicate n 0x00 ++ b) = crc8 b)

/-- O9 (40_crc8.md R140). For sequences a and b of equal length, crc8 of their bytewise XOR is crc8 a xor crc8 b. -/
def Obligations.CrcIsLinear : Prop :=
  ∀ a b : List Byte, a.length = b.length → crc8 (List.zipWith (· ^^^ ·) a b) = crc8 a ^^^ crc8 b

/-- O10 (40_crc8.md R141). For every byte b with any bytes before and after it, and every bit number k below 8, the checksum of the sequence with bit k of b flipped differs from that of the sequence. -/
def Obligations.SingleBitFlipChangesCrc : Prop :=
  ∀ (pre post : List Byte) (b : Byte) (k : Nat), k < 8 →
    crc8 (pre ++ [b ^^^ (1#8 <<< k)] ++ post) ≠ crc8 (pre ++ [b] ++ post)

/-- O11 (R69). For every tag and payload of at most 65528 bytes the frame is AA, the two bytes of length = payload length + 7 high byte first, 02, the tag, the payload bytes in order, one crc byte, BB; the crc byte is crc8 of that same sequence with 00 in the crc slot, BB included. -/
def Obligations.EmittedFrameLayout : Prop :=
  ∀ (tag : Byte) (p : List Byte), p.length ≤ 65528 →
    ∃ hi lo : Byte, hi.toNat * 256 + lo.toNat = p.length + 7 ∧
      frame tag p = [0xAA, hi, lo, 0x02, tag] ++ p ++ [crc8 ([0xAA, hi, lo, 0x02, tag] ++ p ++ [0x00, 0xBB]), 0xBB]

/-- O12 (40_crc8.md R137 (decisions D4, D16)). CRC8 always completes: RES_CRC and the CRC working register hold crc8 of TBUF[0..TLEN-1], RES_KIND is CRC_DONE, the sequencer is idle with DONE set; every other register, flag, buffer byte and stream is unchanged. That the working register ends with that value is the model's choice (log 14), not R137's. -/
def Obligations.Crc8CommandResult : Prop :=
  ∀ s : State, exec .crc8 s = .next
    { s with crcw := crc8 s.operand, resCrc := crc8 s.operand, resKind := .crcDone, op := .none, rxState := .idle, ackPend := none, txDone := false, status := 0b10 }

/-- O13 (10_state.md R41; 30_encoding.md R110; 42_decode.md R179). The operand of CRC8, ENC_DATA and ENC_ECHO has TLEN bytes and its byte i is TBUF[i]; the payload of a frame with length field len has plen bytes and its byte i is PBUF[i]. -/
def Obligations.OperandIsTbufPrefix : Prop :=
  ∀ (s : State) (len : Half),
    s.operand.length = s.tlen.toNat ∧ (∀ i < s.tlen.toNat, s.operand[i]? = some (s.tbufByte i)) ∧
    (s.payload len).length = (plenOf len).toNat ∧ (∀ i < (plenOf len).toNat, (s.payload len)[i]? = some (s.pbufByte i))

/-- O14 (00_scope.md R18; 41_encode.md R150, R151, R153, R158 to R162 (decisions D1, D8, D9, D11)). ENC_DATA and ENC_ECHO with TLEN at most 65528, ENC_ACK, ENC_OPEN and ENC_CLOSE: while the frame has not been handed over and the transport accepts, the step appends to txh the frame of TAG_DATA or TAG_ECHO with payload TBUF[0..TLEN-1], of TAG_ACK with the byte ARG, or the empty frame of TAG_OPEN or TAG_CLOSE, and the operation still runs with every host register unchanged; the step after it completes with SENT and changes nothing else. That these are two steps is R18; the register that tells them apart is the model's (log 5), and so is the value left in the CRC working register (log 14). -/
def Obligations.EncodeCommandsSendOneFrame : Prop :=
  ∀ (s : State) (i : Instr) (tag : Byte) (p : List Byte), (i = .encData ∨ i = .encEcho → s.tlen.toNat ≤ 65528) →
    (i, tag, p) ∈ [(Instr.encData, s.cfg.tagData, s.operand), (.encEcho, s.cfg.tagEcho, s.operand),
      (.encAck, s.cfg.tagAck, [s.arg]), (.encOpen, TAG_OPEN, []), (.encClose, s.cfg.tagClose, [])] →
    (s.txDone = false → s.txEnv = .accept → exec i s = .next { s with crcw := frameCrc tag p, txh := s.txh ++ [frame tag p], txDone := true }) ∧
    (s.txDone = true → exec i s = .next { s with resKind := .sent, op := .none, rxState := .idle, ackPend := none, txDone := false, status := 0b10 })

/-- O15 (41_encode.md R154; 60_exceptions.md R238; 20_memory.md R65 (decision D15)). For each encode command whose frame has not been handed over, ENC_DATA and ENC_ECHO with an operand that fits: when the transport fails it ends with FLAGS.TRANSPORT added, RES_KIND TRANSPORT_ERR, txh unchanged and PBUF unspecified (the model's forget, log 11), everything else unchanged; when the transport holds, the step changes only the CRC working register. R65 gives a hold no step: that the model takes one is log 4, and the value left in the CRC working register is log 14. -/
def Obligations.EncodeCommandsFailOrHoldWithTheTransport : Prop :=
  ∀ (s : State) (i : Instr) (tag : Byte) (p : List Byte), s.txDone = false → (i = .encData ∨ i = .encEcho → s.tlen.toNat ≤ 65528) →
    (i, tag, p) ∈ [(Instr.encData, s.cfg.tagData, s.operand), (.encEcho, s.cfg.tagEcho, s.operand),
      (.encAck, s.cfg.tagAck, [s.arg]), (.encOpen, TAG_OPEN, []), (.encClose, s.cfg.tagClose, [])] →
    (s.txEnv = .fail → exec i s = .next
      { s with crcw := frameCrc tag p, flags := s.flags ||| 0x80, resKind := .transportErr, pbuf := s.pbuf.forget, op := .none, rxState := .idle, ackPend := none, txDone := false, status := 0b10 }) ∧
    (s.txEnv = .hold → exec i s = .next { s with crcw := frameCrc tag p })

/-- O16 (41_encode.md R152 (decision D8)). When TLEN is 65529 to 65535, whatever the transport does, ENC_DATA and ENC_ECHO complete with RES_KIND REJECTED; nothing is sent, no flag is set, nothing else changes. -/
def Obligations.TooLongOperandIsRejected : Prop :=
  ∀ (s : State) (i : Instr), 65528 < s.tlen.toNat → i ∈ [Instr.encData, .encEcho] →
    exec i s = .next { s with resKind := .rejected, op := .none, rxState := .idle, ackPend := none, txDone := false, status := 0b10 }

/-- O17 (30_encoding.md R111 (decision D4)). Whatever the state, the operation of command code 7 completes with RES_KIND REJECTED; nothing is read from rxq, nothing appended to txh, no flag set, nothing else changed. -/
def Obligations.ReservedCodeIsRejected : Prop :=
  decodeCmd 7 = .cmdReserved ∧ ∀ s : State, exec .cmdReserved s = .next { s with resKind := .rejected, op := .none, rxState := .idle, ackPend := none, txDone := false, status := 0b10 }

/-- O18 (R172). In SEEK_START with a byte available: a byte other than 0xAA is consumed, adds 1 to discard, sets RESYNC, and changes nothing else (no ack, no result kind, its value kept nowhere); 0xAA is consumed and the state becomes READ_LENGTH with cnt 0, discard and RESYNC unchanged. -/
def Obligations.SeekStartDropsUntilTheStartByte : Prop :=
  ∀ (s : State) (b : Byte) (rest : List Byte),
    s.rxState = .seekStart → s.ackPend = none → s.rxq = b :: rest → s.rxFault = false →
    (b ≠ 0xAA → exec .decode s = .next { s with rxq := rest, discard := s.discard + 1, flags := s.flags ||| 0x01 }) ∧
    (b = 0xAA → exec .decode s = .next { s with rxq := rest, rxState := .readLength, cnt := 0 })

/-- O19 (42_decode.md R174; 20_memory.md R62). In READ_LENGTH with two bytes available and cnt 0, two steps consume both and leave len = b0 * 256 + b1 in READ_VERSION; beside cnt (2 afterwards) nothing else changes, and no value of the two bytes is judged. That RxRead(2) is two one-byte steps, as R62 allows, is the model's choice (log 13). -/
def Obligations.ReadLengthTakesTwoBytes : Prop :=
  ∀ (s : State) (b0 b1 : Byte) (rest : List Byte),
    s.rxState = .readLength → s.ackPend = none → s.cnt = 0 → s.rxq = b0 :: b1 :: rest → s.rxFault = false →
    (ofBytes b0 b1).toNat = b0.toNat * 256 + b1.toNat ∧
    ∃ t, exec .decode s = .next t ∧
      exec .decode t = .next { s with rxq := rest, len := ofBytes b0 b1, cnt := 2, rxState := .readVersion }

/-- O20 (42_decode.md R175, R176; 20_memory.md R79). In READ_VERSION with a byte available it goes into ver. The byte 0x02 leads to READ_TYPE with nothing sent. Any other byte sets FLAGS.VERSION and makes ack 2 due, still in READ_VERSION; the next step, when the transport accepts, appends the frame of TAG_ACK with the byte 2 (AA 00 08 02 61 02 59 BB under the default tags) and only then enters READ_TYPE. The register that holds the ack due is the model's (log 7), and so is the value left in the CRC working register (log 14). -/
def Obligations.ReadVersionFlagsAndAcknowledges : Prop :=
  (∀ (s : State) (b : Byte) (rest : List Byte),
    s.rxState = .readVersion → s.ackPend = none → s.rxq = b :: rest → s.rxFault = false →
    (b = 0x02 → exec .decode s = .next { s with rxq := rest, ver := b, rxState := .readType }) ∧
    (b ≠ 0x02 → exec .decode s = .next { s with rxq := rest, ver := b, flags := s.flags ||| 0x04, ackPend := some 2 })) ∧
  (∀ s : State, s.rxState = .readVersion → s.ackPend = some 2 → s.txEnv = .accept →
    exec .decode s = .next { s with crcw := frameCrc s.cfg.tagAck [2], txh := s.txh ++ [frame s.cfg.tagAck [2]], ackPend := none, rxState := .readType }) ∧
  frame 0x61 [0x02] = [0xAA, 0x00, 0x08, 0x02, 0x61, 0x02, 0x59, 0xBB]

/-- O21 (R177). In READ_TYPE with a byte available, whatever its value, it goes into typ and the state becomes READ_PAYLOAD with cnt 0; nothing else changes. -/
def Obligations.ReadTypeKeepsTheByte : Prop :=
  ∀ (s : State) (b : Byte) (rest : List Byte),
    s.rxState = .readType → s.ackPend = none → s.rxq = b :: rest → s.rxFault = false →
    exec .decode s = .next { s with rxq := rest, typ := b, rxState := .readPayload, cnt := 0 }

/-- O22 (42_decode.md R178; 60_exceptions.md R233 (decision D24)). In READ_PAYLOAD with len 0 to 6, whatever the streams hold, the step sets FLAGS.LENGTH, writes RES_KIND BAD_LENGTH and completes; rxq, txh, PBUF, RES_TAG, RES_CODE, RES_PLEN and everything else are unchanged. -/
def Obligations.MalformedLengthEndsTheDecode : Prop :=
  ∀ s : State, s.rxState = .readPayload → s.ackPend = none → s.len.toNat < 7 →
    exec .decode s = .next { s with flags := s.flags ||| 0x20, resKind := .badLength, op := .none, rxState := .idle, ackPend := none, txDone := false, status := 0b10 }

/-- O23 (42_decode.md R179; 10_state.md R25, R40). In READ_PAYLOAD with len 7 or more and cnt below plen and a byte available, the step consumes it, PBUF[cnt] reads it, every other index of PBUF and every index of TBUF reads as before, cnt goes up by one, and beside these nothing changes; with cnt equal to plen the state becomes READ_CRC and nothing else changes, so plen 0 reads nothing; that this passage is a step of its own, which consumes nothing, is the model's choice (log 13). -/
def Obligations.ReadPayloadStoresInOrder : Prop :=
  (∀ (s : State) (b : Byte) (rest : List Byte),
    s.rxState = .readPayload → s.ackPend = none → s.rxq = b :: rest → s.rxFault = false →
    7 ≤ s.len.toNat → s.cnt.toNat < s.len.toNat - 7 →
    ∃ t, exec .decode s = .next t ∧ t.cnt.toNat = s.cnt.toNat + 1 ∧
      t.pbufByte s.cnt.toNat = b ∧ (∀ a, a ≠ s.cnt.toNat → t.pbufByte a = s.pbufByte a) ∧ (∀ a, t.tbufByte a = s.tbufByte a) ∧
      { t with pbuf := s.pbuf, cnt := s.cnt } = { s with rxq := rest }) ∧
  (∀ s : State, s.rxState = .readPayload → s.ackPend = none → 7 ≤ s.len.toNat → s.cnt.toNat = s.len.toNat - 7 →
    exec .decode s = .next { s with rxState := .readCrc })

/-- O24 (42_decode.md R181, R182; 20_memory.md R79). In READ_CRC with a byte available it goes into rcrc and expc holds crc8 of AA, the two length bytes, ver, typ, the plen payload bytes, 00, BB. Equal bytes lead to READ_END. Otherwise FLAGS.CRC is set and ack 1 is due; the next step, when the transport accepts, appends the frame of TAG_ACK with the byte 1 (AA 00 08 02 61 01 E4 BB under the default tags) and then enters READ_END. The payload in PBUF is untouched. The register that holds the ack due is the model's (log 7), and so is the value left in the CRC working register (log 14). -/
def Obligations.ReadCrcComparesAndAcknowledges : Prop :=
  (∀ s : State, s.expectedCrc = crc8 ([0xAA, hiByte s.len, loByte s.len, s.ver, s.typ] ++ s.payload s.len ++ [0x00, 0xBB])) ∧
  (∀ (s : State) (b : Byte) (rest : List Byte),
    s.rxState = .readCrc → s.ackPend = none → s.rxq = b :: rest → s.rxFault = false →
    (b = s.expectedCrc → exec .decode s = .next { s with rxq := rest, rcrc := b, expc := s.expectedCrc, crcw := s.expectedCrc, rxState := .readEnd }) ∧
    (b ≠ s.expectedCrc → exec .decode s = .next
      { s with rxq := rest, rcrc := b, expc := s.expectedCrc, crcw := s.expectedCrc, flags := s.flags ||| 0x02, ackPend := some 1 })) ∧
  (∀ s : State, s.rxState = .readCrc → s.ackPend = some 1 → s.txEnv = .accept →
    exec .decode s = .next { s with crcw := frameCrc s.cfg.tagAck [1], txh := s.txh ++ [frame s.cfg.tagAck [1]], ackPend := none, rxState := .readEnd }) ∧
  frame 0x61 [0x01] = [0xAA, 0x00, 0x08, 0x02, 0x61, 0x01, 0xE4, 0xBB]

/-- O25 (42_decode.md R183, R184; 20_memory.md R79). In READ_END with a byte available, whatever its value, it is consumed into endb. BB leads to DISPATCH. Any other byte sets FLAGS.ENDING and makes ack 3 due; the next step, when the transport accepts, appends the frame of TAG_ACK with the byte 3 (AA 00 08 02 61 03 32 BB under the default tags) and then enters DISPATCH. The register that holds the ack due is the model's (log 7), and so is the value left in the CRC working register (log 14). -/
def Obligations.ReadEndConsumesAndAcknowledges : Prop :=
  (∀ (s : State) (b : Byte) (rest : List Byte),
    s.rxState = .readEnd → s.ackPend = none → s.rxq = b :: rest → s.rxFault = false →
    (b = 0xBB → exec .decode s = .next { s with rxq := rest, endb := b, rxState := .dispatch }) ∧
    (b ≠ 0xBB → exec .decode s = .next { s with rxq := rest, endb := b, flags := s.flags ||| 0x08, ackPend := some 3 })) ∧
  (∀ s : State, s.rxState = .readEnd → s.ackPend = some 3 → s.txEnv = .accept →
    exec .decode s = .next { s with crcw := frameCrc s.cfg.tagAck [3], txh := s.txh ++ [frame s.cfg.tagAck [3]], ackPend := none, rxState := .dispatch }) ∧
  frame 0x61 [0x03] = [0xAA, 0x00, 0x08, 0x02, 0x61, 0x03, 0x32, 0xBB]

/-- O26 (20_memory.md R62; 42_decode.md R188). When DECODE is inside RxRead (rx_ready is 1: no ack due, a reading state, in READ_PAYLOAD with payload still to come), rxq is empty and no receive fault is set, its step changes nothing. R62 says that a hold has no step: that the model takes a step which answers the same state is its choice (log 4). -/
def Obligations.DecodeHoldsWithoutBytes : Prop :=
  ∀ s : State, s.rxReady = true → s.rxq = [] → s.rxFault = false → exec .decode s = .next s

/-- O27 (20_memory.md R63; 60_exceptions.md R238; 42_decode.md R189; 93_implementation_defined.md U4 (decision D15)). When DECODE is inside RxRead and the fault is set: with rxq empty the step completes the operation with FLAGS.TRANSPORT added and RES_KIND TRANSPORT_ERR; txh, TBUF, ARG, TLEN, RES_TAG, RES_CODE, RES_PLEN, RES_CRC, discard, the received registers and the CRC register are unchanged. With a byte available the step either ends so too, or does exactly what it does with that byte when no fault is set, the fault staying set. PBUF after the fault is unspecified (the model's forget, log 11); which outcome it is, and which suffix of the bytes the unfinished read had taken and those queued is left in rxq, are free values (log 12) and advance the counter of free values (log 28). -/
def Obligations.ReceiveFaultEndsTheDecode : Prop :=
  ∀ s : State, s.rxReady = true → s.rxFault = true →
    (s.rxq = [] → ∃ n, exec .decode s = .next
      { s with flags := s.flags ||| 0x80, resKind := .transportErr, pbuf := s.pbuf.forget, rxq := s.inFlight.drop n, draws := s.draws + 1, op := .none, rxState := .idle, ackPend := none, txDone := false, status := 0b10 }) ∧
    (s.rxq ≠ [] →
      (∃ n d, exec .decode s = .next
        { s with flags := s.flags ||| 0x80, resKind := .transportErr, pbuf := s.pbuf.forget, rxq := (s.inFlight ++ s.rxq).drop n, draws := d, op := .none, rxState := .idle, ackPend := none, txDone := false, status := 0b10 }) ∨
      (∃ t, exec .decode { s with rxFault := false } = .next t ∧
        exec .decode s = .next { t with rxFault := true, draws := s.draws + 1 }))

/-- O28 (60_exceptions.md R238, R240; 20_memory.md R65, R79 (decision D15)). When a fault ack with code c is due inside DECODE: if the transport fails, the operation ends with FLAGS.TRANSPORT added and TRANSPORT_ERR, txh and rxq as they were and PBUF unspecified (the model's forget, log 11); if it holds, the step changes only the CRC working register. Neither depends on the state of the sequencer. The register that holds the ack due is log 7, the hold as a step log 4, the value left in the CRC working register log 14. -/
def Obligations.FaultAckFailsOrHoldsWithTheTransport : Prop :=
  ∀ (s : State) (c : Byte), s.ackPend = some c →
    (s.txEnv = .fail → exec .decode s = .next
      { s with crcw := frameCrc s.cfg.tagAck [c], flags := s.flags ||| 0x80, resKind := .transportErr, pbuf := s.pbuf.forget, op := .none, rxState := .idle, ackPend := none, txDone := false, status := 0b10 }) ∧
    (s.txEnv = .hold → exec .decode s = .next { s with crcw := frameCrc s.cfg.tagAck [c] })

/-- O29 (30_encoding.md R105, R106; 43_dispatch.md R200). In DISPATCH with no ack due, rst released, len 7 or more and distinct tags, CODEC's next operation is RX_DATA, RX_ACK, RX_OPEN, RX_CLOSE, RX_ECHO or RX_TEST when typ is that tag and RX_UNKNOWN when it is none of the six, and the step of DECODE is that operation. -/
def Obligations.DispatchSelectsByTypeAlone : Prop :=
  ∀ s : State, s.rst = false → s.op = .decode → s.rxState = .dispatch → s.ackPend = none → 7 ≤ s.len.toNat → s.cfg.distinct →
    ∃ i, s.fetch = some i ∧ exec .decode s = exec i s ∧
      (i = .rxData s.len s.ver ↔ s.typ = s.cfg.tagData) ∧ (i = .rxAck s.len s.ver ↔ s.typ = s.cfg.tagAck) ∧
      (i = .rxOpen s.len s.ver ↔ s.typ = TAG_OPEN) ∧ (i = .rxClose s.len s.ver ↔ s.typ = s.cfg.tagClose) ∧
      (i = .rxEcho s.len s.ver ↔ s.typ = s.cfg.tagEcho) ∧ (i = .rxTest s.len s.ver ↔ s.typ = s.cfg.tagTest) ∧
      (i = .rxUnknown s.len s.ver s.typ ↔ s.typ ∉ s.cfg.tags)

/-- O30 (43_dispatch.md R200, R202, R205 (decisions D11, D17)). With a length field of 7 or more, RX_DATA writes RES_TAG, RES_PLEN = length - 7 and RES_KIND DATA and completes; PBUF, both streams and everything else are unchanged. -/
def Obligations.RxDataOffersThePayload : Prop :=
  ∀ (s : State) (len : Half) (ver : Byte), 7 ≤ len.toNat →
    exec (.rxData len ver) s = .next { s with resTag := s.cfg.tagData, resPlen := BitVec.ofNat 16 (len.toNat - 7), resKind := .data, op := .none, rxState := .idle, ackPend := none, txDone := false, status := 0b10 }

/-- O31 (43_dispatch.md R200, R202, R203, R204 (decisions D7, D11)). RX_ACK writes RES_TAG and RES_PLEN 0, sends nothing and completes. With length field 8, RES_CODE is PBUF[0] and RES_KIND is ACK when it is at most 6 and UNKNOWN_ACK otherwise, no flag changing; with length 9 or more the same with FLAGS.ACKFORM set; with length 7 ACKFORM is set, RES_CODE is 0 and RES_KIND UNKNOWN_ACK. Nothing else changes. -/
def Obligations.RxAckReportsTheCode : Prop :=
  ∀ (s : State) (len : Half) (ver : Byte),
    (len.toNat = 8 → exec (.rxAck len ver) s = .next
      { s with resTag := s.cfg.tagAck, resCode := s.pbufByte 0, resPlen := 0,
               resKind := if (s.pbufByte 0).toNat ≤ 6 then .ack else .unknownAck, op := .none, rxState := .idle, ackPend := none, txDone := false, status := 0b10 }) ∧
    (len.toNat = 7 → exec (.rxAck len ver) s = .next
      { s with resTag := s.cfg.tagAck, flags := s.flags ||| 0x40, resCode := 0, resPlen := 0, resKind := .unknownAck, op := .none, rxState := .idle, ackPend := none, txDone := false, status := 0b10 }) ∧
    (9 ≤ len.toNat → exec (.rxAck len ver) s = .next
      { s with resTag := s.cfg.tagAck, flags := s.flags ||| 0x40, resCode := s.pbufByte 0, resPlen := 0,
               resKind := if (s.pbufByte 0).toNat ≤ 6 then .ack else .unknownAck, op := .none, rxState := .idle, ackPend := none, txDone := false, status := 0b10 })

/-- O32 (60_exceptions.md R221; 43_dispatch.md R203 (decision D11)). The receipt of code NO_ERROR, CRC, VERSION, ENDING, TYPE, OPENED, CLOSED writes RES_CODE 0 to 6 and RES_KIND ACK; of a code 7 to 255 the byte and UNKNOWN_ACK; RES_PLEN is 0 and the operation completes; nothing else changes. -/
def Obligations.AckCodeRowsReportTheirCode : Prop :=
  ∀ s : State,
    (∀ p ∈ [(Instr.ackNoError, (0 : Byte)), (.ackCrc, 1), (.ackVersion, 2), (.ackEnding, 3), (.ackType, 4), (.ackOpened, 5), (.ackClosed, 6)],
      exec p.1 s = .next { s with resCode := p.2, resPlen := 0, resKind := .ack, op := .none, rxState := .idle, ackPend := none, txDone := false, status := 0b10 }) ∧
    (∀ code : Byte, 7 ≤ code.toNat →
      exec (.ackUnknown code) s = .next { s with resCode := code, resPlen := 0, resKind := .unknownAck, op := .none, rxState := .idle, ackPend := none, txDone := false, status := 0b10 })

/-- O33 (00_scope.md R18; 43_dispatch.md R200, R202, R206, R207, R208, R213 (decisions D1, D11)). With a length field of 7 or more: while the reply has not been handed over and the transport accepts, the step of RX_OPEN appends the empty TAG_OPEN frame, of RX_CLOSE the empty TAG_CLOSE frame, of RX_ECHO the TAG_DATA frame of PBUF[0..plen-1] to txh and writes RES_TAG, with RES_KIND and RES_PLEN as they were and the operation still running; the step after it writes RES_PLEN 0 and RES_KIND OPEN, CLOSE or ECHO and completes, txh as it was. The register that tells the two apart is the model's (log 5), and so is the value left in the CRC working register (log 14). -/
def Obligations.RepliesAreSentBeforeTheResult : Prop :=
  ∀ (s : State) (len : Half) (ver : Byte) (i : Instr) (typ tag : Byte) (p : List Byte) (k : ResKind),
    7 ≤ len.toNat →
    (i, typ, tag, p, k) ∈ [(Instr.rxOpen len ver, TAG_OPEN, TAG_OPEN, [], ResKind.openFrame),
      (.rxClose len ver, s.cfg.tagClose, s.cfg.tagClose, [], .closeFrame),
      (.rxEcho len ver, s.cfg.tagEcho, s.cfg.tagData, s.payload len, .echo)] →
    (s.txDone = false → s.txEnv = .accept → exec i s = .next
      { s with resTag := typ, crcw := frameCrc tag p, txh := s.txh ++ [frame tag p], txDone := true }) ∧
    (s.txDone = true → exec i s = .next { s with resTag := typ, resPlen := 0, resKind := k, op := .none, rxState := .idle, ackPend := none, txDone := false, status := 0b10 })

/-- O34 (43_dispatch.md R213; 60_exceptions.md R238, R240 (decision D15)). With a length field of 7 or more, RX_OPEN, RX_CLOSE and RX_ECHO whose reply has not been handed over: if the transport fails, RES_TAG is the type byte, FLAGS.TRANSPORT is added, RES_KIND is TRANSPORT_ERR, txh is unchanged and PBUF unspecified (the model's forget, log 11); if it holds, RES_TAG and the CRC working register are written and nothing else changes (the model's choice, log 25). The hold as a step is log 4, the value left in the CRC working register log 14. -/
def Obligations.RepliesFailOrHoldWithTheTransport : Prop :=
  ∀ (s : State) (len : Half) (ver : Byte) (i : Instr) (typ tag : Byte) (p : List Byte) (k : ResKind),
    7 ≤ len.toNat → s.txDone = false →
    (i, typ, tag, p, k) ∈ [(Instr.rxOpen len ver, TAG_OPEN, TAG_OPEN, [], ResKind.openFrame),
      (.rxClose len ver, s.cfg.tagClose, s.cfg.tagClose, [], .closeFrame),
      (.rxEcho len ver, s.cfg.tagEcho, s.cfg.tagData, s.payload len, .echo)] →
    (s.txEnv = .fail → exec i s = .next
      { s with resTag := typ, crcw := frameCrc tag p, flags := s.flags ||| 0x80, resKind := .transportErr, pbuf := s.pbuf.forget, op := .none, rxState := .idle, ackPend := none, txDone := false, status := 0b10 }) ∧
    (s.txEnv = .hold → exec i s = .next { s with resTag := typ, crcw := frameCrc tag p })

/-- O35 (00_scope.md R18; 43_dispatch.md R200, R202, R209, R213; 30_encoding.md R112 (decisions D1, D11)). With a length field of 7 or more, RX_UNKNOWN of type byte typ writes RES_TAG typ; while the ack has not been handed over it sets FLAGS.TYPE, and when the transport accepts, the frame of TAG_ACK with the byte 4 is appended to txh with no result written yet; the step after it writes RES_PLEN 0 and RES_KIND UNKNOWN_TYPE and completes. When the transport fails instead, TYPE and TRANSPORT are set and RES_KIND is TRANSPORT_ERR with nothing appended and PBUF unspecified (the model's forget, log 11); when it holds, the tag, the flag and the CRC working register are written and nothing else changes (the model's choice, log 25). The register that tells the two steps apart is log 5, the hold as a step log 4, the value left in the CRC working register log 14. -/
def Obligations.RxUnknownAcknowledgesType : Prop :=
  (∀ (s : State) (len : Half) (ver typ : Byte), 7 ≤ len.toNat →
    (s.txDone = false → s.txEnv = .accept → exec (.rxUnknown len ver typ) s = .next
      { s with resTag := typ, flags := s.flags ||| 0x10, crcw := frameCrc s.cfg.tagAck [4], txh := s.txh ++ [frame s.cfg.tagAck [4]], txDone := true }) ∧
    (s.txDone = true → exec (.rxUnknown len ver typ) s = .next { s with resTag := typ, resPlen := 0, resKind := .unknownType, op := .none, rxState := .idle, ackPend := none, txDone := false, status := 0b10 }) ∧
    (s.txDone = false → s.txEnv = .fail → exec (.rxUnknown len ver typ) s = .next
      { s with resTag := typ, flags := s.flags ||| 0x10 ||| 0x80, crcw := frameCrc s.cfg.tagAck [4], resKind := .transportErr,
               pbuf := s.pbuf.forget, op := .none, rxState := .idle, ackPend := none, txDone := false, status := 0b10 }) ∧
    (s.txDone = false → s.txEnv = .hold → exec (.rxUnknown len ver typ) s = .next
      { s with resTag := typ, flags := s.flags ||| 0x10, crcw := frameCrc s.cfg.tagAck [4] })) ∧
  frame 0x61 [0x04] = [0xAA, 0x00, 0x08, 0x02, 0x61, 0x04, 0x24, 0xBB]

/-- O36 (43_dispatch.md R200, R202, R210 (decision D6)). With a length field of 7 or more: if TEST_KNOWN holds, RX_TEST writes RES_TAG, RES_PLEN 0 and RES_KIND TEST and completes, nothing else changed; otherwise it is RX_UNKNOWN of TAG_TEST. -/
def Obligations.RxTestFollowsTestKnown : Prop :=
  ∀ (s : State) (len : Half) (ver : Byte), 7 ≤ len.toNat →
    (s.cfg.testKnown = true → exec (.rxTest len ver) s = .next { s with resTag := s.cfg.tagTest, resPlen := 0, resKind := .test, op := .none, rxState := .idle, ackPend := none, txDone := false, status := 0b10 }) ∧
    (s.cfg.testKnown = false → exec (.rxTest len ver) s = exec (.rxUnknown len ver s.cfg.tagTest) s)

/-- O37 (30_encoding.md R106, R114, R123 (log 21)). The one condition that prevents dispatch: with a length operand of 0 to 6, which no well-formed instruction has, each of the seven FRAME rows sets FLAGS.LENGTH, writes BAD_LENGTH and completes, with nothing sent and nothing else changed (the model's choice for a case no run reaches, log 21). -/
def Obligations.ShortLengthIsNotDispatched : Prop :=
  ∀ (s : State) (len : Half) (ver typ : Byte) (i : Instr), len.toNat < 7 →
    i ∈ [Instr.rxData len ver, .rxAck len ver, .rxOpen len ver, .rxClose len ver, .rxEcho len ver, .rxTest len ver, .rxUnknown len ver typ] →
    ¬ WellFormed s.cfg i ∧ exec i s = .next { s with flags := s.flags ||| 0x20, resKind := .badLength, op := .none, rxState := .idle, ackPend := none, txDone := false, status := 0b10 }

/-- O38 (43_dispatch.md R211; 30_encoding.md R106). For each FRAME row: run from a state and from the same state with any other FLAGS, and with any other version operand, it gives next states that agree in everything but FLAGS, and the flags it adds are the same. -/
def Obligations.DispatchIsBlindToFlags : Prop :=
  ∀ (s t : State) (f : Byte) (len : Half) (ver ver' typ : Byte) (i i' : Instr),
    (i, i') ∈ [(Instr.rxData len ver, Instr.rxData len ver'), (.rxAck len ver, .rxAck len ver'), (.rxOpen len ver, .rxOpen len ver'),
      (.rxClose len ver, .rxClose len ver'), (.rxEcho len ver, .rxEcho len ver'), (.rxTest len ver, .rxTest len ver'),
      (.rxUnknown len ver typ, .rxUnknown len ver' typ)] →
    exec i s = .next t →
    ∃ t' added, exec i' { s with flags := f } = .next t' ∧ t.flags = s.flags ||| added ∧ t' = { t with flags := f ||| added }

/-- O39 (10_state.md R20, R23; 43_dispatch.md R200). With no turn listed, or CODEC's listed first, the step is exec of the fetched operation (on the state with that turn taken off); with nothing fetched it changes nothing else. While rst is released, op selects the seven commands and the reserved code, and in DISPATCH, with no ack due, a header in the registers that decodes selects its instruction. The list of turns with CODEC's turn when none is listed (log 3), the step of an idle block (log 4) and the value of op for the reserved code (log 6) are the model's choice; R20, R23 and R200 do not say them. -/
def Obligations.StepRunsTheFetchedOperation : Prop :=
  (∀ (s : State) (i : Instr), s.sched = [] → s.fetch = some i → step s = exec i s) ∧
  (∀ (s : State) (i : Instr) (rest : List Turn), s.sched = .codec :: rest → s.fetch = some i → step s = exec i { s with sched := rest }) ∧
  (∀ s : State, s.sched = [] → s.fetch = none → step s = .next s) ∧
  (∀ s : State, s.rst = false →
    (∀ p ∈ [(Op.crc8, Instr.crc8), (.encData, .encData), (.encAck, .encAck), (.encOpen, .encOpen), (.encClose, .encClose),
        (.encEcho, .encEcho), (.reserved, .cmdReserved)], s.op = p.1 → s.fetch = some p.2) ∧
    (s.op = .none → s.fetch = none) ∧
    (s.op = .decode → s.rxState ≠ .dispatch → s.fetch = some .decode) ∧
    (∀ i, s.op = .decode → s.rxState = .dispatch → s.ackPend = none →
      decode s.cfg (.header (headerBytes s.len s.ver s.typ)) = .ok i → s.fetch = some i))

/-- O40 (10_state.md R34, R24; 30_encoding.md R110 (decisions D4, D14)). When BUSY is 0 and rst is released, a host write of code c to CMD sets BUSY, clears DONE, FLAGS, the RES registers and discard, and op becomes the command of c (rx_state SEEK_START for DECODE, IDLE otherwise); nothing else changes, and the operation CODEC then runs is the one c decodes to. The two registers ackPend and txDone, which it clears, are the model's (logs 5, 7). -/
def Obligations.CommandWriteIsAccepted : Prop :=
  ∀ (s : State) (c : BitVec 3), s.busy = false → s.rst = false →
    ∃ t, hostTurn (.writeCmd c) s = .next t ∧ t.fetch = some (decodeCmd c) ∧
      t = { s with status := 0b01, flags := 0, resKind := .none, resCode := 0, resTag := 0, resPlen := 0, resCrc := 0, discard := 0,
                   op := t.op, rxState := if c = 6 then .seekStart else .idle, ackPend := none, txDone := false }

/-- O41 (10_state.md R37; 70_reset_and_hazards.md R260 (decision D14)). While BUSY is 1 or rst is asserted, a host write to CMD, ARG, TLEN or an existing index of TBUF leaves the whole state as it is. The clause about rst is the model's choice (log 19): R260 gives it for the registers it holds at their reset values, and for TBUF, whose contents it leaves unspecified, not even by implication. -/
def Obligations.HostWritesAreIgnoredWhileBusy : Prop :=
  ∀ (s : State) (a : HostAct), s.busy = true ∨ s.rst = true →
    (∃ c, a = .writeCmd c) ∨ (∃ v, a = .writeArg v) ∨ (∃ v, a = .writeTlen v) ∨ (∃ i v, a = .writeTbuf i v ∧ i < 65535) →
    hostTurn a s = .next s

/-- O42 (10_state.md R33, R38, R41 (decisions D3, D16)). When BUSY is 0 and rst is released: a write of ARG or TLEN stores exactly the value and changes nothing else; a write of TBUF at an index below 65535 makes that index read the value, leaves every other index and everything else as it was; an index of 65535 or more does not exist (the model's named fault, log 16). -/
def Obligations.OperandWritesReadBack : Prop :=
  ∀ s : State, s.busy = false → s.rst = false →
    (∀ v, hostTurn (.writeArg v) s = .next { s with arg := v }) ∧
    (∀ v, hostTurn (.writeTlen v) s = .next { s with tlen := v }) ∧
    (∀ i v, i < 65535 → ∃ t, hostTurn (.writeTbuf i v) s = .next t ∧ t.tbufByte i = v ∧
      (∀ a, a ≠ i → t.tbufByte a = s.tbufByte a) ∧ { t with tbuf := s.tbuf } = s) ∧
    (∀ i v, 65535 ≤ i → hostTurn (.writeTbuf i v) s = .fault .noSuchIndex)

/-- O43 (10_state.md R33, R34, R35, R36, R38, R40, R41 (decisions D3, D12)). A host read of ARG, TLEN, STATUS or an existing index of TBUF, at any time, and of FLAGS, RES_KIND, RES_CODE, RES_TAG, RES_PLEN, RES_CRC, DISCARD or an existing index of PBUF while BUSY is 0, returns the value of that register, RES_KIND as its code 0 to 13 and DISCARD as min(discard, 2^32 - 1), and changes nothing but the host's own read value. A result register read while BUSY is 1 gives a free value of its width and advances only the free-value counter beside it. CMD is not readable and an index of 65535 or more of TBUF, 65528 or more of PBUF does not exist: the model's named faults (log 16). That a result register reads its current value also while neither BUSY nor DONE is set, where R38 guarantees none, and the free value while BUSY are log 15. -/
def Obligations.HostReadsHaveNoSideEffect : Prop :=
  (∀ s : State,
    (∀ p ∈ [(HostReg.arg, s.arg.toNat), (.tlen, s.tlen.toNat), (.status, s.status.toNat)],
      hostRead p.1 s = .next { s with hostRd := some (BitVec.ofNat 32 p.2) }) ∧
    (∀ i < 65535, hostRead (.tbuf i) s = .next { s with hostRd := some (BitVec.ofNat 32 (s.tbufByte i).toNat) }) ∧
    (∀ (i : Nat) (r : HostReg) (v w : Nat), i < 65528 →
      (r, v, w) ∈ [(HostReg.flags, s.flags.toNat, 8), (.resKind, s.resKind.code.toNat, 4), (.resCode, s.resCode.toNat, 8),
        (.resTag, s.resTag.toNat, 8), (.resPlen, s.resPlen.toNat, 16), (.resCrc, s.resCrc.toNat, 8),
        (.discard, min s.discard (2 ^ 32 - 1), 32), (.pbuf i, (s.pbufByte i).toNat, 8)] →
      (s.busy = false → hostRead r s = .next { s with hostRd := some (BitVec.ofNat 32 v) }) ∧
      (s.busy = true → ∃ x, hostRead r s = .next { s with hostRd := some x, draws := s.draws + 1 } ∧ x.toNat < 2 ^ w)) ∧
    hostRead .cmd s = .fault .notReadable ∧
    (∀ i, 65535 ≤ i → hostRead (.tbuf i) s = .fault .noSuchIndex) ∧ (∀ i, 65528 ≤ i → hostRead (.pbuf i) s = .fault .noSuchIndex)) ∧
  [ResKind.none, .data, .ack, .unknownAck, .openFrame, .closeFrame, .echo, .test, .unknownType, .badLength, .transportErr, .sent, .crcDone,
    .rejected].map (fun k => k.code.toNat) = [0, 1, 2, 3, 4, 5, 6, 7, 8, 9, 10, 11, 12, 13]

/-- O44 (70_reset_and_hazards.md R260, R261, R262; 10_state.md R48 (decisions D13, D26)). Whatever the state, also in the middle of an operation, asserting rst leaves every register at the value of R48 and the buffers unspecified (no byte listed, log 10), and rxq, the receive fault, txh, the transport, the parameters and the turns as they were; releasing it changes only the pin; while it is asserted CODEC does nothing and both ports are inactive. -/
def Obligations.ResetTurnRestoresRegistersOnly : Prop :=
  (∀ s : State, rstTurn true s =
    { State.reset with cfg := s.cfg, tbuf := s.tbuf.forget, pbuf := s.pbuf.forget, rst := true, rxq := s.rxq, rxFault := s.rxFault,
                       txh := s.txh, txEnv := s.txEnv, sched := s.sched, draws := s.draws, hostRd := s.hostRd }) ∧
  (∀ (s : State) (a : Nat), (rstTurn true s).tbuf.get? a = none ∧ (rstTurn true s).pbuf.get? a = none) ∧
  (∀ s : State, rstTurn false s = { s with rst := false }) ∧
  (∀ s : State, s.rst = true → codecTurn s = .next s ∧ s.rxReady = false ∧ s.txOffer = none)

/-- O45 (10_state.md R48 (decision D13)). In State.reset op is NONE, rx_state IDLE, STATUS 0b00, FLAGS 0, RES_KIND NONE, RES_CODE, RES_TAG, RES_CRC, RES_PLEN, DISCARD, ARG, TLEN and all internal data registers 0, no byte of TBUF or PBUF is listed, and the six default tags are distinct. -/
def Obligations.ResetStateHoldsResetValues : Prop :=
  let s := State.reset
  s.op = .none ∧ s.rxState = .idle ∧ s.status = 0b00 ∧ s.flags = 0x00 ∧ s.resKind = .none ∧ s.resCode = 0 ∧ s.resTag = 0 ∧
  s.resCrc = 0 ∧ s.resPlen = 0 ∧ s.discardReg = 0 ∧ s.arg = 0 ∧ s.tlen = 0 ∧ s.len = 0 ∧ s.ver = 0 ∧ s.typ = 0 ∧ s.rcrc = 0 ∧
  s.expc = 0 ∧ s.endb = 0 ∧ s.cnt = 0 ∧ s.discard = 0 ∧ s.crcw = 0 ∧ s.tbuf.cells = [] ∧ s.pbuf.cells = [] ∧ s.cfg.distinct

/-- O46 (10_state.md R21; 20_memory.md R61; 70_reset_and_hazards.md R281 (decision D2)). A turn of RXENV that delivers a byte appends it to rxq and changes nothing else; its fault and recover turns change only the fault condition; a turn of TXENV changes only what it does with offered frames. The listed turns (log 3), TXENV's decision as a level (log 8) and the recover turn (log 9) are the model's choice; R21, R61 and R281 do not say them. -/
def Obligations.EnvironmentTurnsTouchOnlyTheStreams : Prop :=
  ∀ (s : State) (rest : List Turn),
    (∀ b, s.sched = .rx (.deliver b) :: rest → step s = .next { s with sched := rest, rxq := s.rxq ++ [b] }) ∧
    (s.sched = .rx .fail :: rest → step s = .next { s with sched := rest, rxFault := true }) ∧
    (s.sched = .rx .recover :: rest → step s = .next { s with sched := rest, rxFault := false }) ∧
    (∀ e, s.sched = .tx e :: rest → step s = .next { s with sched := rest, txEnv := e })

/-- O47 (10_state.md R23, R35, R48). The invariant of the sequencer, buffers and results and the invariant of the flags hold of State.reset. -/
def Obligations.InvariantsHoldAtReset : Prop :=
  Inv State.reset ∧ FlagsInv State.reset

/-- O48 (10_state.md R23 to R25, R34 to R36, R40, R41; 42_decode.md R178, R179; 43_dispatch.md R202, R213; 00_scope.md R18). From every state with the invariant (op is NONE exactly when BUSY is 0; rx_state is IDLE exactly when no DECODE runs; the buffers are canonical and in range; only a validated length passes READ_PAYLOAD; cnt never passes plen and counts bytes really stored; a due ack belongs to its state; a frame handed over with its completion still to come belongs to an encode command or to DISPATCH (log 5); result registers are clear while busy, a kind is posted when done, and only DATA offers payload) every step that answers a next state gives a state with the invariant. -/
def Obligations.EveryStepKeepsTheInvariant : Prop :=
  ∀ s t : State, Inv s → step s = .next t → Inv t

/-- O49 (10_state.md R32; 60_exceptions.md R224, R228, R230; 42_decode.md R187; 43_dispatch.md R200, R203, R204, R209). From every state with the invariant of the flags (each fault flagged exactly when its byte was wrong and once its state is reached; LENGTH exactly with BAD_LENGTH and with no later fault; TRANSPORT exactly with TRANSPORT_ERR; TYPE only for a type byte that dispatch does not recognise and, once the reply is handed over and in every result of dispatch, exactly for such a byte and exactly with UNKNOWN_TYPE, RES_TAG being that byte; ACKFORM exactly when an ack result came from a payload that is not one byte; RESYNC exactly when bytes were dropped) every step that answers a next state gives a state with it. -/
def Obligations.EveryStepKeepsTheFlagsInvariant : Prop :=
  ∀ s t : State, FlagsInv s → step s = .next t → FlagsInv t

/-- O50 (41_encode.md R157; 30_encoding.md R98; 95_test_vectors.md part 8). If every frame in txh is well formed then after any step of any agent every frame in txh is well formed; no invariant of the block is needed. -/
def Obligations.EveryFrameSentIsWellFormed : Prop :=
  ∀ s t : State, (∀ f ∈ s.txh, FrameWellFormed f) → step s = .next t → ∀ f ∈ t.txh, FrameWellFormed f

/-- O51 (10_state.md R32; 60_exceptions.md R228 (decision D10)). For every operation and state, the flags after it contain the flags before it. -/
def Obligations.OperationsNeverClearAFlag : Prop :=
  ∀ (i : Instr) (s t : State), exec i s = .next t → t.flags ||| s.flags = t.flags

/-- O52 (10_state.md R24; 42_decode.md R172). For every state, a step of DECODE leaves rx_state as it was, or moves it to the next state of R24's list, or to IDLE with op NONE; no transition goes backwards. A step from SEEK_START that stays there has dropped and counted exactly one byte other than 0xAA, or found rxq empty and changed nothing (the hold as a step is log 4). -/
def Obligations.SequencerOnlyMovesForward : Prop :=
  ∀ s t : State, exec .decode s = .next t →
    (t.rxState = s.rxState ∨ t.rxState.rank = s.rxState.rank + 1 ∨ (t.rxState = .idle ∧ t.op = .none ∧ t.status = 0b10)) ∧
    (s.rxState = .seekStart → s.ackPend = none → t.rxState = .seekStart →
      (s.rxq = [] ∧ t = s) ∨ (∃ b, s.rxq = b :: t.rxq ∧ b ≠ 0xAA ∧ t.discard = s.discard + 1))

/-- O53 (20_memory.md R60, R62, R78; 10_state.md R21). With no receive fault set, CODEC's turn leaves rxq as it is, or removes exactly its first byte, and then rx_ready was 1; every other agent's turn leaves rxq as a prefix of what it is afterwards. -/
def Obligations.OnlyDecodeConsumesAndOneByteAtATime : Prop :=
  (∀ s t : State, s.rxFault = false → codecTurn s = .next t → t.rxq = s.rxq ∨ (s.rxReady = true ∧ ∃ b, s.rxq = b :: t.rxq)) ∧
  (∀ (s t : State) (u : Turn), u ≠ .codec → takeTurn u s = .next t → s.rxq <+: t.rxq)

/-- O54 (20_memory.md R65, R67; 10_state.md R21, R46). CODEC's turn leaves txh as it is or, the transport accepting, appends exactly the frame the transmit port offered; no other agent's turn changes txh. -/
def Obligations.OnlyTheOfferedFrameIsSent : Prop :=
  (∀ s t : State, codecTurn s = .next t → t.txh = s.txh ∨ (s.txEnv = .accept ∧ ∃ f, s.txOffer = some f ∧ t.txh = s.txh ++ [f])) ∧
  (∀ (s t : State) (u : Turn), u ≠ .codec → takeTurn u s = .next t → t.txh = s.txh)

/-- O55 (60_exceptions.md R222; 95_test_vectors.md part 8). With the invariant and distinct tags, a frame with type byte TAG_ACK that CODEC's turn appends while op is not ENC_ACK is the frame of one payload byte 1, 2, 3 or 4. -/
def Obligations.DecodeSendsOnlyTheFourFaultCodes : Prop :=
  ∀ (s t : State) (f : List Byte), Inv s → s.cfg.distinct → s.op ≠ .encAck → codecTurn s = .next t → t.txh = s.txh ++ [f] →
    f.getD 4 0 = s.cfg.tagAck → f ∈ [frame s.cfg.tagAck [1], frame s.cfg.tagAck [2], frame s.cfg.tagAck [3], frame s.cfg.tagAck [4]]

/-- O56 (42_decode.md R186). With the invariant and no receive fault, a step that leaves the DECODE running keeps the sum of the bytes consumed and the length of rxq; in DISPATCH the bytes consumed are discard + len, and in READ_PAYLOAD with a malformed length discard + 5. -/
def Obligations.BytesConsumedAreAccountedFor : Prop :=
  (∀ s t : State, Inv s → s.op = .decode → s.rst = false → s.rxFault = false → codecTurn s = .next t → t.op = .decode →
    t.consumed + t.rxq.length = s.consumed + s.rxq.length) ∧
  (∀ s : State, Inv s → s.rxState = .dispatch → s.consumed = s.discard + s.len.toNat) ∧
  (∀ s : State, Inv s → s.rxState = .readPayload → s.len.toNat < 7 → s.consumed = s.discard + 5)

/-- O57 (20_memory.md R80; 10_state.md R22). Whatever agent moves and whatever is received, the tags and TEST_KNOWN stay as they are. -/
def Obligations.ParametersNeverChange : Prop :=
  ∀ s t : State, step s = .next t → t.cfg = s.cfg

/-- O58 (42_decode.md R171 to R185; 41_encode.md R157). From an accepted DECODE, when rxq is any bytes without 0xAA, then the frame of any tag and any payload of at most 65528 bytes, then anything, some number of steps leads to DISPATCH with typ the tag, len the frame's length, PBUF the payload, discard the number of garbage bytes, FLAGS only RESYNC and that exactly when there was garbage, nothing sent, and rxq what followed the frame. The premises: rst is released, no turn of another agent is listed (CODEC's turn throughout, log 3), no receive fault is set. -/
def Obligations.CleanFrameReachesDispatchIntact : Prop :=
  ∀ (s : State) (tag : Byte) (g p rest : List Byte),
    s.rst = false → s.sched = [] → s.op = .decode → s.rxState = .seekStart → s.ackPend = none → s.txDone = false →
    s.flags = 0 → s.discard = 0 → s.rxFault = false →
    0xAA ∉ g → p.length ≤ 65528 → s.rxq = g ++ frame tag p ++ rest →
    ∃ (n : Nat) (t : State), Host.Core.run Sys2Proof.core n s = .next t ∧
      t.op = .decode ∧ t.rxState = .dispatch ∧ t.ackPend = none ∧ t.typ = tag ∧ t.ver = 0x02 ∧ t.len.toNat = p.length + 7 ∧
      t.payload t.len = p ∧ t.discard = g.length ∧ t.flags = (if g = [] then 0x00 else 0x01) ∧ t.txh = s.txh ∧ t.rxq = rest ∧
      t.txDone = false ∧ t.cfg = s.cfg ∧ t.txEnv = s.txEnv ∧ t.rxFault = false ∧ t.rst = false ∧ t.sched = []

/-- O59 (41_encode.md R157; 43_dispatch.md R205; 95_test_vectors.md S2, S4). Let one block run ENC_DATA and be accepted, and let another, with the same parameters and an accepted DECODE, have in rxq bytes without 0xAA, then exactly the frame appended by the first, then anything. Then some number of steps completes the DECODE with RES_KIND DATA, PBUF[0..RES_PLEN-1] the sender's operand, DISCARD the number of garbage bytes, FLAGS only RESYNC and that exactly when there was garbage, nothing sent, and rxq what followed the frame. The premises: rst is released, no turn of another agent is listed (CODEC's turn throughout, log 3), no receive fault is set. Of the sender the statement takes the step that hands its frame over. -/
def Obligations.EncodedDataIsDecodedUnchanged : Prop :=
  ∀ (a a' s : State) (f g rest : List Byte),
    a.txEnv = .accept → a.txDone = false → a.tlen.toNat ≤ 65528 → exec .encData a = .next a' → a'.txh = a.txh ++ [f] → a.cfg = s.cfg →
    s.rst = false → s.sched = [] → s.op = .decode → s.rxState = .seekStart → s.ackPend = none → s.txDone = false →
    s.flags = 0 → s.discard = 0 → s.rxFault = false →
    0xAA ∉ g → s.rxq = g ++ f ++ rest →
    ∃ (n : Nat) (t : State), Host.Core.run Sys2Proof.core n s = .next t ∧
      t.resKind = .data ∧ t.status = 0b10 ∧ t.op = .none ∧ t.pbufRange t.resPlen.toNat = a.operand ∧ t.resTag = s.cfg.tagData ∧
      t.discard = g.length ∧ t.flags = (if g = [] then 0x00 else 0x01) ∧ t.txh = s.txh ∧ t.rxq = rest

/-- O60 (43_dispatch.md R208; 95_test_vectors.md S3; 90_conflicts.md C2). With distinct tags and a transport that accepts, from an accepted DECODE with a clean TAG_ECHO frame of any payload of at most 65528 bytes at the head of rxq, some number of steps completes the operation with RES_KIND ECHO, RES_PLEN 0, FLAGS 0, exactly the TAG_DATA frame of that payload appended to txh, and rxq what followed the frame. The premises: rst is released, no turn of another agent is listed (CODEC's turn throughout, log 3), no receive fault is set. -/
def Obligations.EchoIsAnsweredWithADataFrame : Prop :=
  ∀ (s : State) (p rest : List Byte),
    s.rst = false → s.sched = [] → s.op = .decode → s.rxState = .seekStart → s.ackPend = none → s.txDone = false →
    s.flags = 0 → s.discard = 0 → s.rxFault = false →
    s.txEnv = .accept → s.cfg.distinct → p.length ≤ 65528 → s.rxq = frame s.cfg.tagEcho p ++ rest →
    ∃ (n : Nat) (t : State), Host.Core.run Sys2Proof.core n s = .next t ∧
      t.resKind = .echo ∧ t.status = 0b10 ∧ t.resPlen = 0 ∧ t.flags = 0 ∧ t.txh = s.txh ++ [frame s.cfg.tagData p] ∧ t.rxq = rest
end

