-- ==== Sys2Proof/Laws/Memory.lean ====
section
/-! SUPPORT. The laws of the byte buffers: what a write leaves at each address, and that every operation keeps the canonical form. -/

namespace Sys2Proof.Machine

theorem lookupCell_insertCell (cells : List Host.Cell) (a b : Nat) (v : Byte) :
    lookupCell (insertCell cells a v) b = if b = a then some v else lookupCell cells b := by
  induction cells with
  | nil => rfl
  | cons c rest ih =>
    obtain ⟨x, w⟩ := c
    simp only [insertCell]
    split
    · simp [lookupCell]
    · split
      · rename_i h; subst h; simp only [lookupCell]; split <;> simp_all
      · simp only [lookupCell, ih]; split <;> split <;> simp_all

/-- A write is read back, and leaves every other address alone. -/
theorem Memory.get?_write (m : Memory) (a b : Nat) (v : Byte) :
    (m.write a v).get? b = if b = a then some v else m.get? b :=
  lookupCell_insertCell m.cells a b v

@[simp] theorem Memory.epoch_write (m : Memory) (a : Nat) (v : Byte) : (m.write a v).epoch = m.epoch := rfl

@[simp] theorem Memory.get?_forget (m : Memory) (a : Nat) : m.forget.get? a = none := rfl

/-- One byte, read after a write. -/
theorem Memory.read_write (free : Nat → Nat → Byte) (m : Memory) (a b : Nat) (v : Byte) :
    (m.write a v).read free b = if b = a then v else m.read free b := by
  simp only [Memory.read, Memory.get?_write, Memory.epoch_write]; split <;> rfl

theorem mem_insertCell {cells : List Host.Cell} {a : Nat} {v : Byte} {x : Host.Cell} :
    x ∈ insertCell cells a v → x = (a, v) ∨ x ∈ cells := by
  induction cells with
  | nil => simp [insertCell]
  | cons c rest ih =>
    obtain ⟨b, w⟩ := c
    simp only [insertCell]
    split
    · simp
    · split
      · simp only [List.mem_cons]; tauto
      · simp only [List.mem_cons]; tauto

/-- A write keeps the canonical form. -/
theorem Memory.wf_write {m : Memory} (h : m.wf) (a : Nat) (v : Byte) : (m.write a v).wf := by
  obtain ⟨cells, e⟩ := m
  change (insertCell cells a v).Pairwise _
  change cells.Pairwise _ at h
  induction cells with
  | nil => simp [insertCell]
  | cons c rest ih =>
    obtain ⟨b, w⟩ := c
    obtain ⟨hb, hr⟩ := List.pairwise_cons.mp h
    simp only [insertCell]
    split
    case isTrue hab =>
      refine List.pairwise_cons.mpr ⟨fun x hx => ?_, h⟩
      rcases List.mem_cons.mp hx with rfl | hx
      · exact hab
      · exact lt_trans hab (hb x hx)
    case isFalse hab =>
      split
      case isTrue heq => subst heq; exact List.pairwise_cons.mpr ⟨hb, hr⟩
      case isFalse hne =>
        refine List.pairwise_cons.mpr ⟨fun x hx => ?_, ih hr⟩
        rcases mem_insertCell hx with rfl | hx
        · change b < a; omega
        · exact hb x hx

/-- A write at an index that exists keeps the listed addresses inside the buffer. -/
theorem Memory.within_write {n : Nat} {m : Memory} (h : m.within n) {a : Nat} (ha : a < n) (v : Byte) :
    (m.write a v).within n := by
  intro x hx
  rcases mem_insertCell hx with rfl | hx
  · exact ha
  · exact h x hx

theorem Memory.wf_forget (m : Memory) : m.forget.wf := List.Pairwise.nil

theorem Memory.within_forget (n : Nat) (m : Memory) : m.forget.within n := fun _ h => nomatch h

theorem Memory.wf_empty : Memory.empty.wf := List.Pairwise.nil

theorem Memory.within_empty (n : Nat) : Memory.empty.within n := fun _ h => nomatch h

@[simp] theorem Memory.length_readRange (free : Nat → Nat → Byte) (m : Memory) (a n : Nat) :
    (m.readRange free a n).length = n := by
  induction n generalizing a with
  | zero => rfl
  | succ n ih => simp [Memory.readRange, ih]

/-- The last byte of a range read. -/
theorem Memory.readRange_succ (free : Nat → Nat → Byte) (m : Memory) (a n : Nat) :
    m.readRange free a (n + 1) = m.readRange free a n ++ [m.read free (a + n)] := by
  induction n generalizing a with
  | zero => rfl
  | succ n ih =>
    have h := ih (a + 1)
    rw [Memory.readRange, h, Memory.readRange, List.cons_append, Nat.add_right_comm a 1 n, Nat.add_assoc a n 1]

/-- A write outside a range leaves the range as it was. -/
theorem Memory.readRange_write (free : Nat → Nat → Byte) (m : Memory) (a n b : Nat) (v : Byte) (h : b < a ∨ a + n ≤ b) :
    (m.write b v).readRange free a n = m.readRange free a n := by
  induction n generalizing a with
  | zero => rfl
  | succ n ih =>
    rw [Memory.readRange, Memory.readRange, Memory.read_write, if_neg (by omega), ih (a + 1) (by omega)]

end Sys2Proof.Machine
end

