-- ==== Sys2Proof/Laws/State.lean ====
section
/-! SUPPORT. What each named update of State leaves in each field, true by rfl: no later proof unfolds a record update. -/

namespace Sys2Proof.Machine

/-! ### `State.complete` -/

@[simp] theorem State.complete_cfg (s : State) : (s.complete).cfg = s.cfg := rfl
@[simp] theorem State.complete_op (s : State) : (s.complete).op = .none := rfl
@[simp] theorem State.complete_rxState (s : State) : (s.complete).rxState = .idle := rfl
@[simp] theorem State.complete_cnt (s : State) : (s.complete).cnt = s.cnt := rfl
@[simp] theorem State.complete_ackPend (s : State) : (s.complete).ackPend = none := rfl
@[simp] theorem State.complete_txDone (s : State) : (s.complete).txDone = false := rfl
@[simp] theorem State.complete_len (s : State) : (s.complete).len = s.len := rfl
@[simp] theorem State.complete_ver (s : State) : (s.complete).ver = s.ver := rfl
@[simp] theorem State.complete_typ (s : State) : (s.complete).typ = s.typ := rfl
@[simp] theorem State.complete_rcrc (s : State) : (s.complete).rcrc = s.rcrc := rfl
@[simp] theorem State.complete_expc (s : State) : (s.complete).expc = s.expc := rfl
@[simp] theorem State.complete_endb (s : State) : (s.complete).endb = s.endb := rfl
@[simp] theorem State.complete_discard (s : State) : (s.complete).discard = s.discard := rfl
@[simp] theorem State.complete_crcw (s : State) : (s.complete).crcw = s.crcw := rfl
@[simp] theorem State.complete_arg (s : State) : (s.complete).arg = s.arg := rfl
@[simp] theorem State.complete_tlen (s : State) : (s.complete).tlen = s.tlen := rfl
@[simp] theorem State.complete_tbuf (s : State) : (s.complete).tbuf = s.tbuf := rfl
@[simp] theorem State.complete_status (s : State) : (s.complete).status = sDONE := rfl
@[simp] theorem State.complete_flags (s : State) : (s.complete).flags = s.flags := rfl
@[simp] theorem State.complete_resKind (s : State) : (s.complete).resKind = s.resKind := rfl
@[simp] theorem State.complete_resCode (s : State) : (s.complete).resCode = s.resCode := rfl
@[simp] theorem State.complete_resTag (s : State) : (s.complete).resTag = s.resTag := rfl
@[simp] theorem State.complete_resPlen (s : State) : (s.complete).resPlen = s.resPlen := rfl
@[simp] theorem State.complete_resCrc (s : State) : (s.complete).resCrc = s.resCrc := rfl
@[simp] theorem State.complete_pbuf (s : State) : (s.complete).pbuf = s.pbuf := rfl
@[simp] theorem State.complete_rst (s : State) : (s.complete).rst = s.rst := rfl
@[simp] theorem State.complete_rxq (s : State) : (s.complete).rxq = s.rxq := rfl
@[simp] theorem State.complete_rxFault (s : State) : (s.complete).rxFault = s.rxFault := rfl
@[simp] theorem State.complete_txh (s : State) : (s.complete).txh = s.txh := rfl
@[simp] theorem State.complete_txEnv (s : State) : (s.complete).txEnv = s.txEnv := rfl
@[simp] theorem State.complete_sched (s : State) : (s.complete).sched = s.sched := rfl
@[simp] theorem State.complete_draws (s : State) : (s.complete).draws = s.draws := rfl
@[simp] theorem State.complete_hostRd (s : State) : (s.complete).hostRd = s.hostRd := rfl

/-! ### `State.finish` -/

@[simp] theorem State.finish_cfg (k : ResKind) (s : State) : (s.finish k).cfg = s.cfg := rfl
@[simp] theorem State.finish_op (k : ResKind) (s : State) : (s.finish k).op = .none := rfl
@[simp] theorem State.finish_rxState (k : ResKind) (s : State) : (s.finish k).rxState = .idle := rfl
@[simp] theorem State.finish_cnt (k : ResKind) (s : State) : (s.finish k).cnt = s.cnt := rfl
@[simp] theorem State.finish_ackPend (k : ResKind) (s : State) : (s.finish k).ackPend = none := rfl
@[simp] theorem State.finish_txDone (k : ResKind) (s : State) : (s.finish k).txDone = false := rfl
@[simp] theorem State.finish_len (k : ResKind) (s : State) : (s.finish k).len = s.len := rfl
@[simp] theorem State.finish_ver (k : ResKind) (s : State) : (s.finish k).ver = s.ver := rfl
@[simp] theorem State.finish_typ (k : ResKind) (s : State) : (s.finish k).typ = s.typ := rfl
@[simp] theorem State.finish_rcrc (k : ResKind) (s : State) : (s.finish k).rcrc = s.rcrc := rfl
@[simp] theorem State.finish_expc (k : ResKind) (s : State) : (s.finish k).expc = s.expc := rfl
@[simp] theorem State.finish_endb (k : ResKind) (s : State) : (s.finish k).endb = s.endb := rfl
@[simp] theorem State.finish_discard (k : ResKind) (s : State) : (s.finish k).discard = s.discard := rfl
@[simp] theorem State.finish_crcw (k : ResKind) (s : State) : (s.finish k).crcw = s.crcw := rfl
@[simp] theorem State.finish_arg (k : ResKind) (s : State) : (s.finish k).arg = s.arg := rfl
@[simp] theorem State.finish_tlen (k : ResKind) (s : State) : (s.finish k).tlen = s.tlen := rfl
@[simp] theorem State.finish_tbuf (k : ResKind) (s : State) : (s.finish k).tbuf = s.tbuf := rfl
@[simp] theorem State.finish_status (k : ResKind) (s : State) : (s.finish k).status = sDONE := rfl
@[simp] theorem State.finish_flags (k : ResKind) (s : State) : (s.finish k).flags = s.flags := rfl
@[simp] theorem State.finish_resKind (k : ResKind) (s : State) : (s.finish k).resKind = k := rfl
@[simp] theorem State.finish_resCode (k : ResKind) (s : State) : (s.finish k).resCode = s.resCode := rfl
@[simp] theorem State.finish_resTag (k : ResKind) (s : State) : (s.finish k).resTag = s.resTag := rfl
@[simp] theorem State.finish_resPlen (k : ResKind) (s : State) : (s.finish k).resPlen = s.resPlen := rfl
@[simp] theorem State.finish_resCrc (k : ResKind) (s : State) : (s.finish k).resCrc = s.resCrc := rfl
@[simp] theorem State.finish_pbuf (k : ResKind) (s : State) : (s.finish k).pbuf = s.pbuf := rfl
@[simp] theorem State.finish_rst (k : ResKind) (s : State) : (s.finish k).rst = s.rst := rfl
@[simp] theorem State.finish_rxq (k : ResKind) (s : State) : (s.finish k).rxq = s.rxq := rfl
@[simp] theorem State.finish_rxFault (k : ResKind) (s : State) : (s.finish k).rxFault = s.rxFault := rfl
@[simp] theorem State.finish_txh (k : ResKind) (s : State) : (s.finish k).txh = s.txh := rfl
@[simp] theorem State.finish_txEnv (k : ResKind) (s : State) : (s.finish k).txEnv = s.txEnv := rfl
@[simp] theorem State.finish_sched (k : ResKind) (s : State) : (s.finish k).sched = s.sched := rfl
@[simp] theorem State.finish_draws (k : ResKind) (s : State) : (s.finish k).draws = s.draws := rfl
@[simp] theorem State.finish_hostRd (k : ResKind) (s : State) : (s.finish k).hostRd = s.hostRd := rfl

/-! ### `State.setFlag` -/

@[simp] theorem State.setFlag_cfg (f : Byte) (s : State) : (s.setFlag f).cfg = s.cfg := rfl
@[simp] theorem State.setFlag_op (f : Byte) (s : State) : (s.setFlag f).op = s.op := rfl
@[simp] theorem State.setFlag_rxState (f : Byte) (s : State) : (s.setFlag f).rxState = s.rxState := rfl
@[simp] theorem State.setFlag_cnt (f : Byte) (s : State) : (s.setFlag f).cnt = s.cnt := rfl
@[simp] theorem State.setFlag_ackPend (f : Byte) (s : State) : (s.setFlag f).ackPend = s.ackPend := rfl
@[simp] theorem State.setFlag_txDone (f : Byte) (s : State) : (s.setFlag f).txDone = s.txDone := rfl
@[simp] theorem State.setFlag_len (f : Byte) (s : State) : (s.setFlag f).len = s.len := rfl
@[simp] theorem State.setFlag_ver (f : Byte) (s : State) : (s.setFlag f).ver = s.ver := rfl
@[simp] theorem State.setFlag_typ (f : Byte) (s : State) : (s.setFlag f).typ = s.typ := rfl
@[simp] theorem State.setFlag_rcrc (f : Byte) (s : State) : (s.setFlag f).rcrc = s.rcrc := rfl
@[simp] theorem State.setFlag_expc (f : Byte) (s : State) : (s.setFlag f).expc = s.expc := rfl
@[simp] theorem State.setFlag_endb (f : Byte) (s : State) : (s.setFlag f).endb = s.endb := rfl
@[simp] theorem State.setFlag_discard (f : Byte) (s : State) : (s.setFlag f).discard = s.discard := rfl
@[simp] theorem State.setFlag_crcw (f : Byte) (s : State) : (s.setFlag f).crcw = s.crcw := rfl
@[simp] theorem State.setFlag_arg (f : Byte) (s : State) : (s.setFlag f).arg = s.arg := rfl
@[simp] theorem State.setFlag_tlen (f : Byte) (s : State) : (s.setFlag f).tlen = s.tlen := rfl
@[simp] theorem State.setFlag_tbuf (f : Byte) (s : State) : (s.setFlag f).tbuf = s.tbuf := rfl
@[simp] theorem State.setFlag_status (f : Byte) (s : State) : (s.setFlag f).status = s.status := rfl
@[simp] theorem State.setFlag_flags (f : Byte) (s : State) : (s.setFlag f).flags = s.flags ||| f := rfl
@[simp] theorem State.setFlag_resKind (f : Byte) (s : State) : (s.setFlag f).resKind = s.resKind := rfl
@[simp] theorem State.setFlag_resCode (f : Byte) (s : State) : (s.setFlag f).resCode = s.resCode := rfl
@[simp] theorem State.setFlag_resTag (f : Byte) (s : State) : (s.setFlag f).resTag = s.resTag := rfl
@[simp] theorem State.setFlag_resPlen (f : Byte) (s : State) : (s.setFlag f).resPlen = s.resPlen := rfl
@[simp] theorem State.setFlag_resCrc (f : Byte) (s : State) : (s.setFlag f).resCrc = s.resCrc := rfl
@[simp] theorem State.setFlag_pbuf (f : Byte) (s : State) : (s.setFlag f).pbuf = s.pbuf := rfl
@[simp] theorem State.setFlag_rst (f : Byte) (s : State) : (s.setFlag f).rst = s.rst := rfl
@[simp] theorem State.setFlag_rxq (f : Byte) (s : State) : (s.setFlag f).rxq = s.rxq := rfl
@[simp] theorem State.setFlag_rxFault (f : Byte) (s : State) : (s.setFlag f).rxFault = s.rxFault := rfl
@[simp] theorem State.setFlag_txh (f : Byte) (s : State) : (s.setFlag f).txh = s.txh := rfl
@[simp] theorem State.setFlag_txEnv (f : Byte) (s : State) : (s.setFlag f).txEnv = s.txEnv := rfl
@[simp] theorem State.setFlag_sched (f : Byte) (s : State) : (s.setFlag f).sched = s.sched := rfl
@[simp] theorem State.setFlag_draws (f : Byte) (s : State) : (s.setFlag f).draws = s.draws := rfl
@[simp] theorem State.setFlag_hostRd (f : Byte) (s : State) : (s.setFlag f).hostRd = s.hostRd := rfl

/-! ### `State.malformedLength` -/

@[simp] theorem State.malformedLength_cfg (s : State) : (s.malformedLength).cfg = s.cfg := rfl
@[simp] theorem State.malformedLength_op (s : State) : (s.malformedLength).op = .none := rfl
@[simp] theorem State.malformedLength_rxState (s : State) : (s.malformedLength).rxState = .idle := rfl
@[simp] theorem State.malformedLength_cnt (s : State) : (s.malformedLength).cnt = s.cnt := rfl
@[simp] theorem State.malformedLength_ackPend (s : State) : (s.malformedLength).ackPend = none := rfl
@[simp] theorem State.malformedLength_txDone (s : State) : (s.malformedLength).txDone = false := rfl
@[simp] theorem State.malformedLength_len (s : State) : (s.malformedLength).len = s.len := rfl
@[simp] theorem State.malformedLength_ver (s : State) : (s.malformedLength).ver = s.ver := rfl
@[simp] theorem State.malformedLength_typ (s : State) : (s.malformedLength).typ = s.typ := rfl
@[simp] theorem State.malformedLength_rcrc (s : State) : (s.malformedLength).rcrc = s.rcrc := rfl
@[simp] theorem State.malformedLength_expc (s : State) : (s.malformedLength).expc = s.expc := rfl
@[simp] theorem State.malformedLength_endb (s : State) : (s.malformedLength).endb = s.endb := rfl
@[simp] theorem State.malformedLength_discard (s : State) : (s.malformedLength).discard = s.discard := rfl
@[simp] theorem State.malformedLength_crcw (s : State) : (s.malformedLength).crcw = s.crcw := rfl
@[simp] theorem State.malformedLength_arg (s : State) : (s.malformedLength).arg = s.arg := rfl
@[simp] theorem State.malformedLength_tlen (s : State) : (s.malformedLength).tlen = s.tlen := rfl
@[simp] theorem State.malformedLength_tbuf (s : State) : (s.malformedLength).tbuf = s.tbuf := rfl
@[simp] theorem State.malformedLength_status (s : State) : (s.malformedLength).status = sDONE := rfl
@[simp] theorem State.malformedLength_flags (s : State) : (s.malformedLength).flags = s.flags ||| fLENGTH := rfl
@[simp] theorem State.malformedLength_resKind (s : State) : (s.malformedLength).resKind = .badLength := rfl
@[simp] theorem State.malformedLength_resCode (s : State) : (s.malformedLength).resCode = s.resCode := rfl
@[simp] theorem State.malformedLength_resTag (s : State) : (s.malformedLength).resTag = s.resTag := rfl
@[simp] theorem State.malformedLength_resPlen (s : State) : (s.malformedLength).resPlen = s.resPlen := rfl
@[simp] theorem State.malformedLength_resCrc (s : State) : (s.malformedLength).resCrc = s.resCrc := rfl
@[simp] theorem State.malformedLength_pbuf (s : State) : (s.malformedLength).pbuf = s.pbuf := rfl
@[simp] theorem State.malformedLength_rst (s : State) : (s.malformedLength).rst = s.rst := rfl
@[simp] theorem State.malformedLength_rxq (s : State) : (s.malformedLength).rxq = s.rxq := rfl
@[simp] theorem State.malformedLength_rxFault (s : State) : (s.malformedLength).rxFault = s.rxFault := rfl
@[simp] theorem State.malformedLength_txh (s : State) : (s.malformedLength).txh = s.txh := rfl
@[simp] theorem State.malformedLength_txEnv (s : State) : (s.malformedLength).txEnv = s.txEnv := rfl
@[simp] theorem State.malformedLength_sched (s : State) : (s.malformedLength).sched = s.sched := rfl
@[simp] theorem State.malformedLength_draws (s : State) : (s.malformedLength).draws = s.draws := rfl
@[simp] theorem State.malformedLength_hostRd (s : State) : (s.malformedLength).hostRd = s.hostRd := rfl

/-! ### `State.transportFault` -/

@[simp] theorem State.transportFault_cfg (s : State) : (s.transportFault).cfg = s.cfg := rfl
@[simp] theorem State.transportFault_op (s : State) : (s.transportFault).op = .none := rfl
@[simp] theorem State.transportFault_rxState (s : State) : (s.transportFault).rxState = .idle := rfl
@[simp] theorem State.transportFault_cnt (s : State) : (s.transportFault).cnt = s.cnt := rfl
@[simp] theorem State.transportFault_ackPend (s : State) : (s.transportFault).ackPend = none := rfl
@[simp] theorem State.transportFault_txDone (s : State) : (s.transportFault).txDone = false := rfl
@[simp] theorem State.transportFault_len (s : State) : (s.transportFault).len = s.len := rfl
@[simp] theorem State.transportFault_ver (s : State) : (s.transportFault).ver = s.ver := rfl
@[simp] theorem State.transportFault_typ (s : State) : (s.transportFault).typ = s.typ := rfl
@[simp] theorem State.transportFault_rcrc (s : State) : (s.transportFault).rcrc = s.rcrc := rfl
@[simp] theorem State.transportFault_expc (s : State) : (s.transportFault).expc = s.expc := rfl
@[simp] theorem State.transportFault_endb (s : State) : (s.transportFault).endb = s.endb := rfl
@[simp] theorem State.transportFault_discard (s : State) : (s.transportFault).discard = s.discard := rfl
@[simp] theorem State.transportFault_crcw (s : State) : (s.transportFault).crcw = s.crcw := rfl
@[simp] theorem State.transportFault_arg (s : State) : (s.transportFault).arg = s.arg := rfl
@[simp] theorem State.transportFault_tlen (s : State) : (s.transportFault).tlen = s.tlen := rfl
@[simp] theorem State.transportFault_tbuf (s : State) : (s.transportFault).tbuf = s.tbuf := rfl
@[simp] theorem State.transportFault_status (s : State) : (s.transportFault).status = sDONE := rfl
@[simp] theorem State.transportFault_flags (s : State) : (s.transportFault).flags = s.flags ||| fTRANSPORT := rfl
@[simp] theorem State.transportFault_resKind (s : State) : (s.transportFault).resKind = .transportErr := rfl
@[simp] theorem State.transportFault_resCode (s : State) : (s.transportFault).resCode = s.resCode := rfl
@[simp] theorem State.transportFault_resTag (s : State) : (s.transportFault).resTag = s.resTag := rfl
@[simp] theorem State.transportFault_resPlen (s : State) : (s.transportFault).resPlen = s.resPlen := rfl
@[simp] theorem State.transportFault_resCrc (s : State) : (s.transportFault).resCrc = s.resCrc := rfl
@[simp] theorem State.transportFault_pbuf (s : State) : (s.transportFault).pbuf = s.pbuf.forget := rfl
@[simp] theorem State.transportFault_rst (s : State) : (s.transportFault).rst = s.rst := rfl
@[simp] theorem State.transportFault_rxq (s : State) : (s.transportFault).rxq = s.rxq := rfl
@[simp] theorem State.transportFault_rxFault (s : State) : (s.transportFault).rxFault = s.rxFault := rfl
@[simp] theorem State.transportFault_txh (s : State) : (s.transportFault).txh = s.txh := rfl
@[simp] theorem State.transportFault_txEnv (s : State) : (s.transportFault).txEnv = s.txEnv := rfl
@[simp] theorem State.transportFault_sched (s : State) : (s.transportFault).sched = s.sched := rfl
@[simp] theorem State.transportFault_draws (s : State) : (s.transportFault).draws = s.draws := rfl
@[simp] theorem State.transportFault_hostRd (s : State) : (s.transportFault).hostRd = s.hostRd := rfl

/-! ### `State.protocolFault` -/

@[simp] theorem State.protocolFault_cfg (f c : Byte) (s : State) : (s.protocolFault f c).cfg = s.cfg := rfl
@[simp] theorem State.protocolFault_op (f c : Byte) (s : State) : (s.protocolFault f c).op = s.op := rfl
@[simp] theorem State.protocolFault_rxState (f c : Byte) (s : State) : (s.protocolFault f c).rxState = s.rxState := rfl
@[simp] theorem State.protocolFault_cnt (f c : Byte) (s : State) : (s.protocolFault f c).cnt = s.cnt := rfl
@[simp] theorem State.protocolFault_ackPend (f c : Byte) (s : State) : (s.protocolFault f c).ackPend = some c := rfl
@[simp] theorem State.protocolFault_txDone (f c : Byte) (s : State) : (s.protocolFault f c).txDone = s.txDone := rfl
@[simp] theorem State.protocolFault_len (f c : Byte) (s : State) : (s.protocolFault f c).len = s.len := rfl
@[simp] theorem State.protocolFault_ver (f c : Byte) (s : State) : (s.protocolFault f c).ver = s.ver := rfl
@[simp] theorem State.protocolFault_typ (f c : Byte) (s : State) : (s.protocolFault f c).typ = s.typ := rfl
@[simp] theorem State.protocolFault_rcrc (f c : Byte) (s : State) : (s.protocolFault f c).rcrc = s.rcrc := rfl
@[simp] theorem State.protocolFault_expc (f c : Byte) (s : State) : (s.protocolFault f c).expc = s.expc := rfl
@[simp] theorem State.protocolFault_endb (f c : Byte) (s : State) : (s.protocolFault f c).endb = s.endb := rfl
@[simp] theorem State.protocolFault_discard (f c : Byte) (s : State) : (s.protocolFault f c).discard = s.discard := rfl
@[simp] theorem State.protocolFault_crcw (f c : Byte) (s : State) : (s.protocolFault f c).crcw = s.crcw := rfl
@[simp] theorem State.protocolFault_arg (f c : Byte) (s : State) : (s.protocolFault f c).arg = s.arg := rfl
@[simp] theorem State.protocolFault_tlen (f c : Byte) (s : State) : (s.protocolFault f c).tlen = s.tlen := rfl
@[simp] theorem State.protocolFault_tbuf (f c : Byte) (s : State) : (s.protocolFault f c).tbuf = s.tbuf := rfl
@[simp] theorem State.protocolFault_status (f c : Byte) (s : State) : (s.protocolFault f c).status = s.status := rfl
@[simp] theorem State.protocolFault_flags (f c : Byte) (s : State) : (s.protocolFault f c).flags = s.flags ||| f := rfl
@[simp] theorem State.protocolFault_resKind (f c : Byte) (s : State) : (s.protocolFault f c).resKind = s.resKind := rfl
@[simp] theorem State.protocolFault_resCode (f c : Byte) (s : State) : (s.protocolFault f c).resCode = s.resCode := rfl
@[simp] theorem State.protocolFault_resTag (f c : Byte) (s : State) : (s.protocolFault f c).resTag = s.resTag := rfl
@[simp] theorem State.protocolFault_resPlen (f c : Byte) (s : State) : (s.protocolFault f c).resPlen = s.resPlen := rfl
@[simp] theorem State.protocolFault_resCrc (f c : Byte) (s : State) : (s.protocolFault f c).resCrc = s.resCrc := rfl
@[simp] theorem State.protocolFault_pbuf (f c : Byte) (s : State) : (s.protocolFault f c).pbuf = s.pbuf := rfl
@[simp] theorem State.protocolFault_rst (f c : Byte) (s : State) : (s.protocolFault f c).rst = s.rst := rfl
@[simp] theorem State.protocolFault_rxq (f c : Byte) (s : State) : (s.protocolFault f c).rxq = s.rxq := rfl
@[simp] theorem State.protocolFault_rxFault (f c : Byte) (s : State) : (s.protocolFault f c).rxFault = s.rxFault := rfl
@[simp] theorem State.protocolFault_txh (f c : Byte) (s : State) : (s.protocolFault f c).txh = s.txh := rfl
@[simp] theorem State.protocolFault_txEnv (f c : Byte) (s : State) : (s.protocolFault f c).txEnv = s.txEnv := rfl
@[simp] theorem State.protocolFault_sched (f c : Byte) (s : State) : (s.protocolFault f c).sched = s.sched := rfl
@[simp] theorem State.protocolFault_draws (f c : Byte) (s : State) : (s.protocolFault f c).draws = s.draws := rfl
@[simp] theorem State.protocolFault_hostRd (f c : Byte) (s : State) : (s.protocolFault f c).hostRd = s.hostRd := rfl

/-! ### `State.finishNoPayload` -/

@[simp] theorem State.finishNoPayload_cfg (k : ResKind) (s : State) : (s.finishNoPayload k).cfg = s.cfg := rfl
@[simp] theorem State.finishNoPayload_op (k : ResKind) (s : State) : (s.finishNoPayload k).op = .none := rfl
@[simp] theorem State.finishNoPayload_rxState (k : ResKind) (s : State) : (s.finishNoPayload k).rxState = .idle := rfl
@[simp] theorem State.finishNoPayload_cnt (k : ResKind) (s : State) : (s.finishNoPayload k).cnt = s.cnt := rfl
@[simp] theorem State.finishNoPayload_ackPend (k : ResKind) (s : State) : (s.finishNoPayload k).ackPend = none := rfl
@[simp] theorem State.finishNoPayload_txDone (k : ResKind) (s : State) : (s.finishNoPayload k).txDone = false := rfl
@[simp] theorem State.finishNoPayload_len (k : ResKind) (s : State) : (s.finishNoPayload k).len = s.len := rfl
@[simp] theorem State.finishNoPayload_ver (k : ResKind) (s : State) : (s.finishNoPayload k).ver = s.ver := rfl
@[simp] theorem State.finishNoPayload_typ (k : ResKind) (s : State) : (s.finishNoPayload k).typ = s.typ := rfl
@[simp] theorem State.finishNoPayload_rcrc (k : ResKind) (s : State) : (s.finishNoPayload k).rcrc = s.rcrc := rfl
@[simp] theorem State.finishNoPayload_expc (k : ResKind) (s : State) : (s.finishNoPayload k).expc = s.expc := rfl
@[simp] theorem State.finishNoPayload_endb (k : ResKind) (s : State) : (s.finishNoPayload k).endb = s.endb := rfl
@[simp] theorem State.finishNoPayload_discard (k : ResKind) (s : State) : (s.finishNoPayload k).discard = s.discard := rfl
@[simp] theorem State.finishNoPayload_crcw (k : ResKind) (s : State) : (s.finishNoPayload k).crcw = s.crcw := rfl
@[simp] theorem State.finishNoPayload_arg (k : ResKind) (s : State) : (s.finishNoPayload k).arg = s.arg := rfl
@[simp] theorem State.finishNoPayload_tlen (k : ResKind) (s : State) : (s.finishNoPayload k).tlen = s.tlen := rfl
@[simp] theorem State.finishNoPayload_tbuf (k : ResKind) (s : State) : (s.finishNoPayload k).tbuf = s.tbuf := rfl
@[simp] theorem State.finishNoPayload_status (k : ResKind) (s : State) : (s.finishNoPayload k).status = sDONE := rfl
@[simp] theorem State.finishNoPayload_flags (k : ResKind) (s : State) : (s.finishNoPayload k).flags = s.flags := rfl
@[simp] theorem State.finishNoPayload_resKind (k : ResKind) (s : State) : (s.finishNoPayload k).resKind = k := rfl
@[simp] theorem State.finishNoPayload_resCode (k : ResKind) (s : State) : (s.finishNoPayload k).resCode = s.resCode := rfl
@[simp] theorem State.finishNoPayload_resTag (k : ResKind) (s : State) : (s.finishNoPayload k).resTag = s.resTag := rfl
@[simp] theorem State.finishNoPayload_resPlen (k : ResKind) (s : State) : (s.finishNoPayload k).resPlen = 0 := rfl
@[simp] theorem State.finishNoPayload_resCrc (k : ResKind) (s : State) : (s.finishNoPayload k).resCrc = s.resCrc := rfl
@[simp] theorem State.finishNoPayload_pbuf (k : ResKind) (s : State) : (s.finishNoPayload k).pbuf = s.pbuf := rfl
@[simp] theorem State.finishNoPayload_rst (k : ResKind) (s : State) : (s.finishNoPayload k).rst = s.rst := rfl
@[simp] theorem State.finishNoPayload_rxq (k : ResKind) (s : State) : (s.finishNoPayload k).rxq = s.rxq := rfl
@[simp] theorem State.finishNoPayload_rxFault (k : ResKind) (s : State) : (s.finishNoPayload k).rxFault = s.rxFault := rfl
@[simp] theorem State.finishNoPayload_txh (k : ResKind) (s : State) : (s.finishNoPayload k).txh = s.txh := rfl
@[simp] theorem State.finishNoPayload_txEnv (k : ResKind) (s : State) : (s.finishNoPayload k).txEnv = s.txEnv := rfl
@[simp] theorem State.finishNoPayload_sched (k : ResKind) (s : State) : (s.finishNoPayload k).sched = s.sched := rfl
@[simp] theorem State.finishNoPayload_draws (k : ResKind) (s : State) : (s.finishNoPayload k).draws = s.draws := rfl
@[simp] theorem State.finishNoPayload_hostRd (k : ResKind) (s : State) : (s.finishNoPayload k).hostRd = s.hostRd := rfl

end Sys2Proof.Machine
end

