-- ==== Sys2Proof/Laws/Ops.lean ====
section
/-! SUPPORT. One lemma for each shared operation that says everything it can do, for proofs to cite instead of unfolding it. -/

namespace Sys2Proof.Machine

/-- `RxRead(1)`: it holds, or faults, or hands over the head of `rxq` (R62, R63). -/
theorem State.rxRead_cases (s : State) (k : Byte → State → State) :
    (s.rxq = [] ∧ s.rxFault = false ∧ s.rxRead k = s) ∨
    (s.rxq = [] ∧ s.rxFault = true ∧ s.rxRead k = s.rxTransportFault) ∨
    (∃ b rest, s.rxq = b :: rest ∧ s.rxFault = true ∧ s.rxRead k = State.rxTransportFault { s with draws := s.draws + 1 }) ∨
    (∃ b rest, s.rxq = b :: rest ∧ s.rxFault = true ∧ s.rxRead k = k b { s with rxq := rest, draws := s.draws + 1 }) ∨
    (∃ b rest, s.rxq = b :: rest ∧ s.rxFault = false ∧ s.rxRead k = k b { s with rxq := rest }) := by
  unfold State.rxRead
  cases hq : s.rxq with
  | nil => cases hf : s.rxFault <;> simp
  | cons b rest =>
    cases hf : s.rxFault
    · simp
    · cases hw : Config.rxFaultWins s.draws <;> simp

/-- `RxRead(1)` with a byte available and no fault (R62). -/
theorem State.rxRead_byte {s : State} {b : Byte} {rest : List Byte} (hq : s.rxq = b :: rest) (hf : s.rxFault = false)
    (k : Byte → State → State) : s.rxRead k = k b { s with rxq := rest } := by
  simp [State.rxRead, hq, hf]

/-- `TxWrite(f)`: accepted, failed or held (R65). -/
theorem State.txWrite_cases (f : List Byte) (s : State) (k : State → State) :
    (s.txEnv = .accept ∧ s.txWrite f k = k { s with txh := s.txh ++ [f] }) ∨
    (s.txEnv = .fail ∧ s.txWrite f k = s.transportFault) ∨
    (s.txEnv = .hold ∧ s.txWrite f k = s) := by
  unfold State.txWrite; cases s.txEnv <;> simp

/-- `Emit(tag, p)` (R151): the crc goes through `crcw`, and the frame through one `TxWrite`. -/
theorem State.emit_cases (tag : Byte) (p : List Byte) (s : State) (k : State → State) :
    (s.txEnv = .accept ∧ s.emit tag p k = k { s with crcw := frameCrc tag p, txh := s.txh ++ [frame tag p] }) ∨
    (s.txEnv = .fail ∧ s.emit tag p k = State.transportFault { s with crcw := frameCrc tag p }) ∨
    (s.txEnv = .hold ∧ s.emit tag p k = { s with crcw := frameCrc tag p }) :=
  State.txWrite_cases (frame tag p) { s with crcw := frameCrc tag p } k

/-- The hand-over of the frame an operation ends with: once it is accepted only the completion is left (R18, R65). -/
theorem State.handOver_cases (tag : Byte) (p : List Byte) (s : State) :
    (s.txEnv = .accept ∧ s.handOver tag p = { s with crcw := frameCrc tag p, txh := s.txh ++ [frame tag p], txDone := true }) ∨
    (s.txEnv = .fail ∧ s.handOver tag p = State.transportFault { s with crcw := frameCrc tag p }) ∨
    (s.txEnv = .hold ∧ s.handOver tag p = { s with crcw := frameCrc tag p }) :=
  State.emit_cases tag p s fun s => { s with txDone := true }

/-- The entry of dispatch (R200, R123). -/
theorem State.enterDispatch_cases (len : Half) (typ : Byte) (s : State) (k : State → Host.Outcome State Fault Refusal) :
    (lenOk len = true ∧ s.enterDispatch len typ k = k { s with resTag := typ }) ∨
    (lenOk len = false ∧ s.enterDispatch len typ k = .next s.malformedLength) := by
  unfold State.enterDispatch; cases lenOk len <;> simp

/-- Whatever row of the code table a byte selects, its receipt is the same operation (R203). -/
theorem runAckCode_eq (c : Byte) (s : State) : runAckCode c s = .next (s.ackReceipt c) := by
  have hc : c = BitVec.ofNat 8 c.toNat := by simp
  unfold runAckCode
  split
  case h_8 => rfl
  all_goals rename_i h; rw [hc, h]; rfl

/-- The receive fault leaves a suffix of what the read could have taken (R63). -/
theorem State.rxTransportFault_rxq (s : State) :
    ∃ n, s.rxTransportFault.rxq = (s.inFlight ++ s.rxq).drop n := ⟨_, rfl⟩

end Sys2Proof.Machine
end

