-- ==== Sys2Proof/Laws/PerInstr.lean ====
section
/-! SUPPORT. The per-instruction family EncodeShape: every instruction's word stands in the place its group of the opcode table names and has that group's size (30_encoding.md R123). -/

namespace Sys2Proof.Laws.EncodeShape

/-- A command for CMD rows, a five-byte header for FRAME rows, a code byte for ACKCODE rows. -/
def Statement (i : Instr) : Prop :=
  ∀ c, match encode c i with
    | .cmd code => decodeCmd code = i
    | .header bytes => bytes.length = 5 ∧ bytes.head? = some START
    | .ackCode b => (∃ code, i = .ackUnknown code ∧ b = code) ∨ decodeAckCode b = i

theorem crc8 : Statement .crc8 := fun _ => rfl
theorem encData : Statement .encData := fun _ => rfl
theorem encAck : Statement .encAck := fun _ => rfl
theorem encOpen : Statement .encOpen := fun _ => rfl
theorem encClose : Statement .encClose := fun _ => rfl
theorem encEcho : Statement .encEcho := fun _ => rfl
theorem decode : Statement .decode := fun _ => rfl
theorem cmdReserved : Statement .cmdReserved := fun _ => rfl
theorem rxData (len : Half) (ver : Byte) : Statement (.rxData len ver) := fun _ => ⟨rfl, rfl⟩
theorem rxAck (len : Half) (ver : Byte) : Statement (.rxAck len ver) := fun _ => ⟨rfl, rfl⟩
theorem rxOpen (len : Half) (ver : Byte) : Statement (.rxOpen len ver) := fun _ => ⟨rfl, rfl⟩
theorem rxClose (len : Half) (ver : Byte) : Statement (.rxClose len ver) := fun _ => ⟨rfl, rfl⟩
theorem rxEcho (len : Half) (ver : Byte) : Statement (.rxEcho len ver) := fun _ => ⟨rfl, rfl⟩
theorem rxTest (len : Half) (ver : Byte) : Statement (.rxTest len ver) := fun _ => ⟨rfl, rfl⟩
theorem rxUnknown (len : Half) (ver typ : Byte) : Statement (.rxUnknown len ver typ) := fun _ => ⟨rfl, rfl⟩
theorem ackNoError : Statement .ackNoError := fun _ => .inr rfl
theorem ackCrc : Statement .ackCrc := fun _ => .inr rfl
theorem ackVersion : Statement .ackVersion := fun _ => .inr rfl
theorem ackEnding : Statement .ackEnding := fun _ => .inr rfl
theorem ackType : Statement .ackType := fun _ => .inr rfl
theorem ackOpened : Statement .ackOpened := fun _ => .inr rfl
theorem ackClosed : Statement .ackClosed := fun _ => .inr rfl
theorem ackUnknown (code : Byte) : Statement (.ackUnknown code) := fun _ => .inl ⟨code, rfl, rfl⟩

end Sys2Proof.Laws.EncodeShape
end

