-- ==== Sys2Proof/Laws/Step.lean ====
section
/-! SUPPORT. What one step can be: the inversion of step and of fetch, and the two spellings of dispatch. -/

namespace Sys2Proof.Machine

/-- A step is CODEC's turn when no turn is listed, and the first listed turn otherwise (R20). -/
theorem step_cases (s : State) :
    (s.sched = [] ∧ step s = codecTurn s) ∨
    (∃ t rest, s.sched = t :: rest ∧ step s = takeTurn t { s with sched := rest }) := by
  unfold step
  cases s.sched with
  | nil => exact .inl ⟨rfl, rfl⟩
  | cons t rest => exact .inr ⟨t, rest, rfl, rfl⟩

/-- Both length bytes survive the header (R68). -/
@[simp] theorem ofBytes_hiByte_loByte (v : Half) : ofBytes (hiByte v) (loByte v) = v := by
  apply BitVec.eq_of_getLsbD_eq
  intro i hi
  simp only [ofBytes, hiByte, loByte, BitVec.getLsbD_append, BitVec.getLsbD_extractLsb']
  split
  case isTrue h => simp [h]
  case isFalse h =>
    have h1 : i - 8 < 8 := by omega
    have h2 : 8 + (i - 8) = i := by omega
    simp [h1, h2]

@[simp] theorem hiByte_ofBytes (a b : Byte) : hiByte (ofBytes a b) = a := by
  apply BitVec.eq_of_getLsbD_eq
  intro i hi
  rw [hiByte, ofBytes, BitVec.getLsbD_extractLsb', BitVec.getLsbD_append]
  simp [hi]

@[simp] theorem loByte_ofBytes (a b : Byte) : loByte (ofBytes a b) = b := by
  apply BitVec.eq_of_getLsbD_eq
  intro i hi
  rw [loByte, ofBytes, BitVec.getLsbD_extractLsb', BitVec.getLsbD_append]
  simp [hi]

/-- The decoder on a header made from the registers (R123). -/
theorem decode_headerCode (s : State) :
    decode s.cfg s.headerCode =
      if OVERHEAD ≤ s.len.toNat then .ok (frameInstr s.cfg s.len s.ver s.typ) else .error .malformedLength := by
  simp [decode, State.headerCode, headerBytes, decodeHeader]

/-- The selection written as an instruction and the selection written as a branch are the same (R105, R200). -/
theorem exec_frameInstr (s : State) : exec (frameInstr s.cfg s.len s.ver s.typ) s = dispatch s := by
  unfold frameInstr dispatch
  repeat' split
  all_goals rfl

/-- The operation an idle block runs: none (R23). -/
@[simp] theorem State.fetch_idle {s : State} (h : s.op = .none) : s.fetch = none := by
  simp [State.fetch, h]

/-- While `DECODE` runs and `rst` is released, CODEC's turn is the next step of `DECODE`: in `DISPATCH` through the row the header selects (R200). -/
theorem codecTurn_decode {s : State} (hr : s.rst = false) (ho : s.op = .decode) : codecTurn s = exec .decode s := by
  unfold codecTurn State.fetch
  simp only [hr, ho, Bool.false_eq_true, if_false]
  split
  case h_2 h => split at h <;> (try split at h) <;> cases h
  case h_1 i h =>
    by_cases hd : s.rxState = .dispatch ∧ s.ackPend = none
    · obtain ⟨hd, ha⟩ := hd
      rw [decode_headerCode] at h
      simp only [hd, ha, decide_true, Option.isNone_none, Bool.and_self, if_true] at h
      split at h
      case h_1 j hj =>
        split at hj
        · cases hj; cases h
          rw [exec_frameInstr]; simp [exec, execDecode, hd, ha]
        · cases hj
      case h_2 e he => cases h; rfl
    · have : (decide (s.rxState = .dispatch) && s.ackPend.isNone) = false := by
        cases hx : s.ackPend <;> simp_all
      rw [this] at h
      cases h; rfl

end Sys2Proof.Machine
end

