-- ==== Sys2Proof/Tests/Slice0.lean ====
section
/-! SUPPORT. The model's own tests: ill-formed terms the check refuses, words written out from the spec's encodings, single steps on small states with results taken from 95_test_vectors.md, and for every statement with hypotheses a concrete state and operands that meet them. -/

namespace Sys2Proof.Tests

open Sys2Proof Sys2Proof.Machine

/-! ### Small states -/

/-- A block that runs `o`, right after its acceptance. -/
def running (o : Op) : State := { State.reset with status := sBUSY, op := o }

/-- A `DECODE` in state `st` with `q` in the receive queue. -/
def decoding (st : RxState) (q : List Byte) : State := { running .decode with rxState := st, rxq := q }

/-- A buffer that holds `p` from index 0. -/
def buffer (p : List Byte) : Memory := { cells := p.zipIdx.map fun x => (x.2, x.1), epoch := 0 }

/-- A `DECODE` in `DISPATCH` for type byte `typ` and payload `p`. -/
def dispatching (typ : Byte) (p : List Byte) : State :=
  { decoding .dispatch [] with len := BitVec.ofNat 16 (p.length + 7), ver := VERSION, typ := typ, pbuf := buffer p }

/-- A command that runs on the operand `p` and the argument `a`. -/
def commanding (o : Op) (p : List Byte) (a : Byte) : State :=
  { running o with tbuf := buffer p, tlen := BitVec.ofNat 16 p.length, arg := a }

/-- An operation whose frame has just been handed over (R18). -/
def handed (s : State) : State := { s with txDone := true }

/-- What a test looks at after one step. -/
structure Seen where
  kind  : ResKind
  code  : Byte
  tag   : Byte
  plen  : Nat
  flags : Byte
  crc   : Byte
  sent  : List (List Byte)
  deriving DecidableEq, Repr

/-- What one step leaves of the results; none where it stops. -/
def results (o : Host.Outcome State Fault Refusal) : Option Seen :=
  match o with
  | .next t => some ⟨t.resKind, t.resCode, t.resTag, t.resPlen.toNat, t.flags, t.resCrc, t.txh⟩
  | .fault _ => none
  | .refused _ => none

/-- Where one step leaves the sequencer. -/
structure Place where
  op     : Op
  state  : RxState
  status : BitVec 2
  left   : List Byte
  deriving DecidableEq, Repr

/-- Where one step leaves the sequencer; none where it stops. -/
def place (o : Host.Outcome State Fault Refusal) : Option Place :=
  match o with
  | .next t => some ⟨t.op, t.rxState, t.status, t.rxq⟩
  | .fault _ => none
  | .refused _ => none

/-! ### WellFormed refuses ill-formed terms (R123) -/

theorem test_wf_rxData_short : ¬ WellFormed Config.default (.rxData 6 2) := by decide
theorem test_wf_rxAck_short : ¬ WellFormed Config.default (.rxAck 0 2) := by decide
theorem test_wf_rxOpen_short : ¬ WellFormed Config.default (.rxOpen 5 2) := by decide
theorem test_wf_rxClose_short : ¬ WellFormed Config.default (.rxClose 6 2) := by decide
theorem test_wf_rxEcho_short : ¬ WellFormed Config.default (.rxEcho 1 2) := by decide
theorem test_wf_rxTest_short : ¬ WellFormed Config.default (.rxTest 6 2) := by decide
theorem test_wf_rxUnknown_short : ¬ WellFormed Config.default (.rxUnknown 6 2 0x7A) := by decide
theorem test_wf_rxUnknown_known_tag : ¬ WellFormed Config.default (.rxUnknown 9 2 0x64) := by decide
theorem test_wf_ackUnknown_named_code : ¬ WellFormed Config.default (.ackUnknown 6) := by decide
theorem test_wf_boundaries : WellFormed Config.default (.rxData 7 0) ∧ WellFormed Config.default (.rxUnknown 7 2 0x00) ∧
    WellFormed Config.default (.ackUnknown 7) := by decide

/-! ### Decoding words written out from the spec -/

/-- 30_encoding.md R110: the eight command codes. -/
theorem test_decode_commands :
    [0b000, 0b001, 0b010, 0b011, 0b100, 0b101, 0b110, 0b111].map decodeCmd =
      [.crc8, .encData, .encAck, .encOpen, .encClose, .encEcho, .decode, .cmdReserved] := by decide

/-- 30_encoding.md R90, R105 with the default tags of R9: start, length high byte first, version, type. -/
theorem test_decode_rxData : decode Config.default (.header [0xAA, 0x01, 0x09, 0x03, 0x64]) = .ok (.rxData 0x0109 3) := by decide
theorem test_decode_rxAck : decode Config.default (.header [0xAA, 0x00, 0x08, 0x02, 0x61]) = .ok (.rxAck 8 2) := by decide
theorem test_decode_rxOpen : decode Config.default (.header [0xAA, 0x00, 0x07, 0x02, 0x6F]) = .ok (.rxOpen 7 2) := by decide
theorem test_decode_rxClose : decode Config.default (.header [0xAA, 0x00, 0x07, 0x02, 0x63]) = .ok (.rxClose 7 2) := by decide
theorem test_decode_rxEcho : decode Config.default (.header [0xAA, 0x00, 0x0C, 0x02, 0x65]) = .ok (.rxEcho 12 2) := by decide
theorem test_decode_rxTest : decode Config.default (.header [0xAA, 0x00, 0x07, 0x02, 0x74]) = .ok (.rxTest 7 2) := by decide
theorem test_decode_rxUnknown : decode Config.default (.header [0xAA, 0xFF, 0xFF, 0x02, 0x00]) = .ok (.rxUnknown 0xFFFF 2 0x00) := by decide
theorem test_decode_bad_start : decode Config.default (.header [0xAB, 0x00, 0x07, 0x02, 0x6F]) = .error .badStart := by decide
theorem test_decode_short_length : decode Config.default (.header [0xAA, 0x00, 0x06, 0x02, 0x6F]) = .error .malformedLength := by decide
theorem test_decode_not_five_bytes : decode Config.default (.header [0xAA, 0x00, 0x07, 0x02]) = .error .notAHeader := by decide

/-- 60_exceptions.md R221: the code bytes, and R113 for the rest. -/
theorem test_decode_codes :
    [0x00, 0x01, 0x02, 0x03, 0x04, 0x05, 0x06, 0x07, 0xFF].map decodeAckCode =
      [.ackNoError, .ackCrc, .ackVersion, .ackEnding, .ackType, .ackOpened, .ackClosed, .ackUnknown 0x07, .ackUnknown 0xFF] := by decide

/-- The opcode table's numbering (log 17). -/
theorem test_table_words :
    decodeTableWord 8 6 = some .decode ∧ decodeTableWord 8 0x80 = some (.ackUnknown 0x80) ∧
    decodeTableWord 40 0xAA0007026F = some (.rxOpen 7 2) ∧ decodeTableWord 40 0xAA0006026F = none ∧ decodeTableWord 16 0xAA = none := by
  decide +kernel

/-- A table word is the first thing the block runs (log 18); 95_test_vectors.md X9 and E1. -/
theorem test_fetch_words :
    (State.reset.withFetchWord 40 0xAA0007026F).sched = [.codec] ∧
    results (step (State.reset.withFetchWord 40 0xAA0007026F)) =
      some ⟨.none, 0, 0x6F, 0, 0, 0, [[0xAA, 0x00, 0x07, 0x02, 0x6F, 0xD7, 0xBB]]⟩ ∧
    results (step (State.reset.withFetchWord 8 3)) = some ⟨.none, 0, 0, 0, 0, 0, [[0xAA, 0x00, 0x07, 0x02, 0x6F, 0xD7, 0xBB]]⟩ ∧
    results (step (State.reset.withFetchWord 8 0x80)) = some ⟨.unknownAck, 0x80, 0x61, 0, 0, 0, []⟩ := by
  decide +kernel

/-! ### One step of each operation; results from 95_test_vectors.md -/

/-- V1: "123456789" gives F4 (S1). -/
theorem test_crc8_check_value : results (exec .crc8 (commanding .crc8 [0x31, 0x32, 0x33, 0x34, 0x35, 0x36, 0x37, 0x38, 0x39] 0)) =
      some ⟨.crcDone, 0, 0, 0, 0, 0xF4, []⟩ := by decide +kernel

/-- V1: a one-hot byte that wraps, and the order of bytes. -/
theorem test_crc8_values : crc8 [] = 0x00 ∧ crc8 [0x40] = 0xC7 ∧ crc8 [0x01, 0x00] = 0x15 ∧ crc8 [0x00, 0x01] = 0x07 := by decide +kernel

/-- S2: `ENC_DATA "hello"`. -/
theorem test_encData_hello : results (exec .encData (commanding .encData [0x68, 0x65, 0x6C, 0x6C, 0x6F] 0)) = some ⟨.none, 0, 0, 0, 0, 0, [[0xAA, 0x00, 0x0C, 0x02, 0x64, 0x68, 0x65, 0x6C, 0x6C, 0x6F, 0x86, 0xBB]]⟩ ∧
    results (exec .encData (handed (commanding .encData [0x68, 0x65, 0x6C, 0x6C, 0x6F] 0))) = some ⟨.sent, 0, 0, 0, 0, 0, []⟩ := by decide +kernel

/-- S3: the echo frame of "hello". -/
theorem test_encEcho_hello : results (exec .encEcho (commanding .encEcho [0x68, 0x65, 0x6C, 0x6C, 0x6F] 0)) = some ⟨.none, 0, 0, 0, 0, 0, [[0xAA, 0x00, 0x0C, 0x02, 0x65, 0x68, 0x65, 0x6C, 0x6C, 0x6F, 0x95, 0xBB]]⟩ ∧
    results (exec .encEcho (handed (commanding .encEcho [0x68, 0x65, 0x6C, 0x6C, 0x6F] 0))) = some ⟨.sent, 0, 0, 0, 0, 0, []⟩ := by decide +kernel

/-- S5: `ENC_ACK 7`. -/
theorem test_encAck_seven : results (exec .encAck (commanding .encAck [] 7)) = some ⟨.none, 0, 0, 0, 0, 0, [[0xAA, 0x00, 0x08, 0x02, 0x61, 0x07, 0x99, 0xBB]]⟩ ∧
    results (exec .encAck (handed (commanding .encAck [] 7))) = some ⟨.sent, 0, 0, 0, 0, 0, []⟩ := by decide +kernel

/-- S6, X10: the empty frames. -/
theorem test_encOpen : results (exec .encOpen (running .encOpen)) = some ⟨.none, 0, 0, 0, 0, 0, [[0xAA, 0x00, 0x07, 0x02, 0x6F, 0xD7, 0xBB]]⟩ ∧
    results (exec .encOpen (handed (running .encOpen))) = some ⟨.sent, 0, 0, 0, 0, 0, []⟩ := by decide +kernel
theorem test_encClose : results (exec .encClose (running .encClose)) = some ⟨.none, 0, 0, 0, 0, 0, [[0xAA, 0x00, 0x07, 0x02, 0x63, 0x2D, 0xBB]]⟩ ∧
    results (exec .encClose (handed (running .encClose))) = some ⟨.sent, 0, 0, 0, 0, 0, []⟩ := by decide +kernel

/-- R152: one byte too many. -/
theorem test_encData_too_long : results (exec .encData { running .encData with tlen := 65529 }) =
    some ⟨.rejected, 0, 0, 0, 0, 0, []⟩ := by decide +kernel

theorem test_cmdReserved : results (exec .cmdReserved (running .reserved)) = some ⟨.rejected, 0, 0, 0, 0, 0, []⟩ := by decide +kernel

/-- R172: a byte dropped, the start byte taken. -/
theorem test_decode_seek : place (exec .decode (decoding .seekStart [0x00, 0xAA])) = some ⟨.decode, .seekStart, sBUSY, [0xAA]⟩ ∧
    place (exec .decode (decoding .seekStart [0xAA, 0x00])) = some ⟨.decode, .readLength, sBUSY, [0x00]⟩ := by decide +kernel

/-- D1 in its last byte but one: `Hi` with crc B2. -/
theorem test_decode_crc : place (exec .decode { decoding .readCrc [0xB2, 0xBB] with len := 9, ver := 2, typ := 0x64, pbuf := buffer [0x48, 0x69] }) =
    some ⟨.decode, .readEnd, sBUSY, [0xBB]⟩ := by decide +kernel

/-- X-vectors of part 7: one dispatch each. -/
theorem test_rxData : results (exec (.rxData 9 2) (dispatching 0x64 [0x48, 0x69])) = some ⟨.data, 0, 0x64, 2, 0, 0, []⟩ := by decide +kernel
theorem test_rxAck_known : results (exec (.rxAck 8 2) (dispatching 0x61 [0x06])) = some ⟨.ack, 6, 0x61, 0, 0, 0, []⟩ := by decide +kernel
theorem test_rxAck_malformed : results (exec (.rxAck 9 2) (dispatching 0x61 [0x09, 0x01])) = some ⟨.unknownAck, 9, 0x61, 0, 0x40, 0, []⟩ ∧
    results (exec (.rxAck 7 2) (dispatching 0x61 [])) = some ⟨.unknownAck, 0, 0x61, 0, 0x40, 0, []⟩ := by decide +kernel
theorem test_rxOpen : results (exec (.rxOpen 7 2) (dispatching 0x6F [])) = some ⟨.none, 0, 0x6F, 0, 0, 0, [[0xAA, 0x00, 0x07, 0x02, 0x6F, 0xD7, 0xBB]]⟩ ∧
    results (exec (.rxOpen 7 2) (handed (dispatching 0x6F []))) = some ⟨.openFrame, 0, 0x6F, 0, 0, 0, []⟩ := by decide +kernel
theorem test_rxClose : results (exec (.rxClose 7 2) (dispatching 0x63 [])) = some ⟨.none, 0, 0x63, 0, 0, 0, [[0xAA, 0x00, 0x07, 0x02, 0x63, 0x2D, 0xBB]]⟩ ∧
    results (exec (.rxClose 7 2) (handed (dispatching 0x63 []))) = some ⟨.closeFrame, 0, 0x63, 0, 0, 0, []⟩ := by decide +kernel
theorem test_rxEcho : results (exec (.rxEcho 12 2) (dispatching 0x65 [0x68, 0x65, 0x6C, 0x6C, 0x6F])) = some ⟨.none, 0, 0x65, 0, 0, 0, [[0xAA, 0x00, 0x0C, 0x02, 0x64, 0x68, 0x65, 0x6C, 0x6C, 0x6F, 0x86, 0xBB]]⟩ ∧
    results (exec (.rxEcho 12 2) (handed (dispatching 0x65 [0x68, 0x65, 0x6C, 0x6C, 0x6F]))) = some ⟨.echo, 0, 0x65, 0, 0, 0, []⟩ := by decide +kernel
theorem test_rxTest : results (exec (.rxTest 7 2) (dispatching 0x74 [])) = some ⟨.test, 0, 0x74, 0, 0, 0, []⟩ := by decide +kernel
theorem test_rxUnknown : results (exec (.rxUnknown 9 2 0x7A) (dispatching 0x7A [0x01, 0x02])) = some ⟨.none, 0, 0x7A, 0, 0x10, 0, [[0xAA, 0x00, 0x08, 0x02, 0x61, 0x04, 0x24, 0xBB]]⟩ ∧
    results (exec (.rxUnknown 9 2 0x7A) (handed { dispatching 0x7A [0x01, 0x02] with flags := 0x10 })) = some ⟨.unknownType, 0, 0x7A, 0, 0x10, 0, []⟩ := by decide +kernel
theorem test_ack_rows : results (exec .ackNoError (dispatching 0x61 [0])) = some ⟨.ack, 0, 0, 0, 0, 0, []⟩ ∧
    results (exec .ackCrc (dispatching 0x61 [1])) = some ⟨.ack, 1, 0, 0, 0, 0, []⟩ ∧
    results (exec .ackVersion (dispatching 0x61 [2])) = some ⟨.ack, 2, 0, 0, 0, 0, []⟩ ∧
    results (exec .ackEnding (dispatching 0x61 [3])) = some ⟨.ack, 3, 0, 0, 0, 0, []⟩ ∧
    results (exec .ackType (dispatching 0x61 [4])) = some ⟨.ack, 4, 0, 0, 0, 0, []⟩ ∧
    results (exec .ackOpened (dispatching 0x61 [5])) = some ⟨.ack, 5, 0, 0, 0, 0, []⟩ ∧
    results (exec .ackClosed (dispatching 0x61 [6])) = some ⟨.ack, 6, 0, 0, 0, 0, []⟩ ∧
    results (exec (.ackUnknown 7) (dispatching 0x61 [7])) = some ⟨.unknownAck, 7, 0, 0, 0, 0, []⟩ := by decide +kernel

/-- D24: the fault ack of a version fault fails. -/
theorem test_fault_ack_fails : results (exec .decode { decoding .readVersion [] with ackPend := some 2, flags := fVERSION, txEnv := .fail }) =
    some ⟨.transportErr, 0, 0, 0, 0x84, 0, []⟩ := by decide +kernel

/-- R18, R213: when the frame has been handed over the operation still runs, and offers nothing more. -/
theorem test_handOver_keeps_running : place (exec .encClose (running .encClose)) = some ⟨.encClose, .idle, sBUSY, []⟩ ∧
    place (exec (.rxClose 7 2) (dispatching 0x63 [])) = some ⟨.decode, .dispatch, sBUSY, []⟩ ∧
    (handed (running .encClose)).txOffer = none ∧ (handed (dispatching 0x63 [])).txOffer = none := by decide +kernel

/-- R64: `tx_last` with the final byte of the frame alone. -/
theorem test_tx_beats : (running .encOpen).txValid = true ∧ (running .encOpen).txOffer.map txBeats =
    some [(0xAA, false), (0x00, false), (0x07, false), (0x02, false), (0x6F, false), (0xD7, false), (0xBB, true)] := by decide +kernel

/-- The reset memory is in canonical form. -/
theorem test_reset_memory : State.reset.tbuf.wf ∧ State.reset.pbuf.wf := by decide

/-! ### Witnesses: a state and operands for the hypotheses of each statement -/

/-- O1, O2: default tags, one instruction of each group at a boundary of its operands. -/
theorem test_witness_DecodeOfEncode : Config.default.distinct ∧ WellFormed Config.default .decode ∧ WellFormed Config.default (.rxData 7 0xFF) ∧
    WellFormed Config.default (.rxUnknown 0xFFFF 0 0x00) ∧ WellFormed Config.default (.ackUnknown 7) := by decide
theorem test_witness_EncodeOfDecode : decode Config.default (.cmd 7) = .ok .cmdReserved ∧
    decode Config.default (.header [0xAA, 0x00, 0x07, 0x02, 0x6F]) = .ok (.rxOpen 7 2) ∧ decode Config.default (.ackCode 0) = .ok .ackNoError := by decide

/-- O4: length fields 0, 6, 7 and 65535. -/
theorem test_witness_Headers : (0xAB : Byte) ≠ 0xAA ∧ (0x00 : Byte).toNat * 256 + (0x00 : Byte).toNat < 7 ∧ (0x00 : Byte).toNat * 256 + (0x06 : Byte).toNat < 7 ∧
    7 ≤ (0x00 : Byte).toNat * 256 + (0x07 : Byte).toNat ∧ 7 ≤ (0xFF : Byte).toNat * 256 + (0xFF : Byte).toNat := by decide

/-- O5: the least length that is accepted. -/
theorem test_witness_LengthField : lenOk 7 = true ∧ lenOk 6 = false ∧ (plenOf 7).toNat = 0 ∧ (plenOf 0xFFFF).toNat = 65528 := by decide

/-- O6: a byte for each value of bit 7. -/
theorem test_witness_CrcBitStep : (0x80 : Byte).getLsbD 7 = true ∧ (0x7F : Byte).getLsbD 7 = false := by decide

/-- O9, O10: sequences of equal length; the first and last bit. -/
theorem test_witness_CrcLaws : ([0x01, 0x02] : List Byte).length = ([0xFF, 0x00] : List Byte).length ∧ 0 < 8 ∧ 7 < 8 := by decide

/-- O11: the empty and the longest payload. -/
theorem test_witness_FrameLayout : ([] : List Byte).length ≤ 65528 ∧ (List.replicate 65528 (0 : Byte)).length ≤ 65528 :=
  ⟨Nat.zero_le _, le_of_eq List.length_replicate⟩

/-- O13: indices 0 and the last of an operand and of a payload. -/
theorem test_witness_Operand : 0 < (commanding .encData [1, 2] 0).tlen.toNat ∧ 1 < (commanding .encData [1, 2] 0).tlen.toNat ∧ 0 < (plenOf 8).toNat := by decide

/-- O14, O15: each command, with the longest operand that fits; the frame handed over or not; the transport accepts, fails, holds. -/
theorem test_witness_EncodeCommands : ∀ d ∈ [false, true], ∀ i ∈ [Instr.encData, .encEcho, .encAck, .encOpen, .encClose], ∀ e ∈ [TxEnv.accept, .fail, .hold],
    let s := { running .encData with tlen := 65528, txEnv := e, txDone := d }
    s.txEnv = e ∧ s.txDone = d ∧ (i = .encData ∨ i = .encEcho → s.tlen.toNat ≤ 65528) ∧
    ∃ x ∈ [(Instr.encData, s.cfg.tagData), (.encEcho, s.cfg.tagEcho), (.encAck, s.cfg.tagAck), (.encOpen, TAG_OPEN), (.encClose, s.cfg.tagClose)], x.1 = i := by
  decide +kernel

/-- O16: the least operand that does not fit. -/
theorem test_witness_TooLong : 65528 < ({ running .encData with tlen := 65529 }).tlen.toNat ∧ Instr.encData ∈ [Instr.encData, .encEcho] := by decide

/-- What O18 to O21, O23 to O25 ask of a `DECODE` with a byte available. -/
def readable (st : RxState) (b : Byte) (rest : List Byte) (s : State) : Prop :=
  s.rxState = st ∧ s.ackPend = none ∧ s.rxq = b :: rest ∧ s.rxFault = false

/-- O18, both clauses. -/
theorem test_witness_SeekStart : readable .seekStart 0xAB [] (decoding .seekStart [0xAB]) ∧ (0xAB : Byte) ≠ 0xAA ∧
    readable .seekStart 0xAA [0x00] (decoding .seekStart [0xAA, 0x00]) := by simp [readable, decoding, running, State.reset]

/-- O19. -/
theorem test_witness_ReadLength : (decoding .readLength [0x00, 0x07]).cnt = 0 ∧ readable .readLength 0x00 [0x07] (decoding .readLength [0x00, 0x07]) := by
  simp [readable, decoding, running, State.reset]

/-- O20, three clauses. -/
theorem test_witness_ReadVersion : readable .readVersion 0x02 [] (decoding .readVersion [0x02]) ∧
    readable .readVersion 0x03 [] (decoding .readVersion [0x03]) ∧ (0x03 : Byte) ≠ 0x02 ∧
    ({ decoding .readVersion [] with ackPend := some 2 }).rxState = .readVersion ∧
    ({ decoding .readVersion [] with ackPend := some 2 }).ackPend = some 2 ∧
    ({ decoding .readVersion [] with ackPend := some 2 }).txEnv = .accept := by simp [readable, decoding, running, State.reset]

/-- O21. -/
theorem test_witness_ReadType : readable .readType 0x64 [] (decoding .readType [0x64]) := by simp [readable, decoding, running, State.reset]

/-- O22: lengths 0 and 6. -/
theorem test_witness_Malformed :
    (let s := { decoding .readPayload [] with len := 0 }
     s.rxState = .readPayload ∧ s.ackPend = none ∧ s.len.toNat < 7) ∧
    (let s := { decoding .readPayload [] with len := 6 }
     s.rxState = .readPayload ∧ s.ackPend = none ∧ s.len.toNat < 7) := by decide

/-- O23: a payload of one byte still to come, the same payload read, and no payload at all. -/
theorem test_witness_ReadPayload :
    readable .readPayload 0x48 [] { decoding .readPayload [0x48] with len := 8 } ∧
    (let s := { decoding .readPayload [0x48] with len := 8 }
     7 ≤ s.len.toNat ∧ s.cnt.toNat < s.len.toNat - 7) ∧
    (let s := { decoding .readPayload [] with len := 8, cnt := 1 }
     s.rxState = .readPayload ∧ s.ackPend = none ∧ 7 ≤ s.len.toNat ∧ s.cnt.toNat = s.len.toNat - 7) ∧
    (let s := { decoding .readPayload [] with len := 7 }
     s.rxState = .readPayload ∧ s.ackPend = none ∧ 7 ≤ s.len.toNat ∧ s.cnt.toNat = s.len.toNat - 7) := by
  simp [readable, decoding, running, State.reset]

/-- A `DECODE` of the `open` frame that has `b` as its crc byte to read. -/
def openCrc (b : Byte) : State := { decoding .readCrc [b] with len := 7, ver := 2, typ := 0x6F }

/-- O24: the `open` frame's crc D7 and another byte (R144), and the ack due. -/
theorem test_witness_ReadCrc : readable .readCrc 0xD7 [] (openCrc 0xD7) ∧ readable .readCrc 0xD6 [] (openCrc 0xD6) :=
  ⟨⟨rfl, rfl, rfl, rfl⟩, ⟨rfl, rfl, rfl, rfl⟩⟩
theorem test_witness_ReadCrc_match : (openCrc 0xD7).expectedCrc = 0xD7 ∧ (openCrc 0xD6).expectedCrc ≠ 0xD6 := by decide +kernel
theorem test_witness_ReadCrc_ack :
    let s := { decoding .readCrc [] with ackPend := some 1 }
    s.rxState = .readCrc ∧ s.ackPend = some 1 ∧ s.txEnv = .accept := by decide

/-- O25, three clauses. -/
theorem test_witness_ReadEnd : readable .readEnd 0xBB [] (decoding .readEnd [0xBB]) ∧ readable .readEnd 0xBA [] (decoding .readEnd [0xBA]) ∧ (0xBA : Byte) ≠ 0xBB ∧
    ({ decoding .readEnd [] with ackPend := some 3 }).rxState = .readEnd ∧
    ({ decoding .readEnd [] with ackPend := some 3 }).ackPend = some 3 ∧
    ({ decoding .readEnd [] with ackPend := some 3 }).txEnv = .accept := by simp [readable, decoding, running, State.reset]

/-- O26, O27: inside `RxRead` in a reading state and in `READ_PAYLOAD`, with and without the fault. -/
theorem test_witness_Holds : ∀ f ∈ [false, true],
    (let s := { decoding .seekStart [] with rxFault := f }
     s.rxReady = true ∧ s.rxq = [] ∧ s.rxFault = f) ∧
    (let s := { decoding .readPayload [] with len := 8, rxFault := f }
     s.rxReady = true ∧ s.rxq = [] ∧ s.rxFault = f) := by decide

/-- O27: the fault set with a byte available, in a reading state and after one payload byte of two. -/
theorem test_witness_FaultWithByte :
    (let s := { decoding .readEnd [0xBB] with rxFault := true }
     s.rxReady = true ∧ s.rxFault = true ∧ s.rxq ≠ []) ∧
    (let s := { decoding .readPayload [0x69] with len := 9, cnt := 1, pbuf := buffer [0x48], rxFault := true }
     s.rxReady = true ∧ s.rxFault = true ∧ s.rxq ≠ []) := by decide

/-- O28: an ack due while the transport fails, and while it holds. -/
theorem test_witness_FaultAck : ∀ e ∈ [TxEnv.fail, .hold],
    let s := { decoding .readCrc [] with ackPend := some 1, txEnv := e }
    s.ackPend = some 1 ∧ s.txEnv = e := by decide

/-- O29: `DISPATCH` for each tag and for a byte that is none. -/
theorem test_witness_Dispatch : ∀ typ ∈ [(0x64 : Byte), 0x61, 0x6F, 0x63, 0x65, 0x74, 0x7A],
    let s := dispatching typ []
    s.rst = false ∧ s.op = .decode ∧ s.rxState = .dispatch ∧ s.ackPend = none ∧ 7 ≤ s.len.toNat ∧ s.cfg.distinct ∧ s.typ = typ := by
  decide +kernel

/-- O30, O33 to O36: length 7, the reply handed over or not, every answer of the transport, and the replies' operands. -/
theorem test_witness_Replies : 7 ≤ (7 : Half).toNat ∧ (dispatching 0x65 []).txDone = false ∧ (handed (dispatching 0x65 [])).txDone = true ∧
    (∀ e ∈ [TxEnv.accept, .fail, .hold], ({ dispatching 0x65 [] with txEnv := e }).txEnv = e) ∧
    (Instr.rxEcho 7 2, (dispatching 0x65 []).cfg.tagEcho, ResKind.echo) ∈
      [(Instr.rxOpen 7 2, TAG_OPEN, ResKind.openFrame), (.rxClose 7 2, (dispatching 0x65 []).cfg.tagClose, .closeFrame),
       (.rxEcho 7 2, (dispatching 0x65 []).cfg.tagEcho, .echo)] := by decide
theorem test_witness_TestKnown : (dispatching 0x74 []).cfg.testKnown = true ∧
    ({ dispatching 0x74 [] with cfg := { Config.default with testKnown := false } }).cfg.testKnown = false := by decide

/-- O31: the three lengths where the clauses meet, with a known and an unknown code. -/
theorem test_witness_RxAck : (7 : Half).toNat = 7 ∧ (8 : Half).toNat = 8 ∧ 9 ≤ (9 : Half).toNat ∧
    (dispatching 0x61 [6]).pbufByte 0 = 6 ∧ (dispatching 0x61 [7]).pbufByte 0 = 7 := by decide +kernel

/-- O32: the least unknown code. -/
theorem test_witness_AckCodes : 7 ≤ (7 : Byte).toNat := by decide

/-- O37: the greatest length that is not dispatched. -/
theorem test_witness_ShortLength : (6 : Half).toNat < 7 ∧ Instr.rxData 6 2 ∈ [Instr.rxData 6 2, .rxAck 6 2] := by decide

/-- O38: a row, two version bytes, a next state. -/
theorem test_witness_Blind : (Instr.rxData 9 2, Instr.rxData 9 3) ∈ [(Instr.rxData 9 2, Instr.rxData 9 3), (.rxAck 9 2, .rxAck 9 3)] ∧
    ∃ t, exec (.rxData 9 2) (dispatching 0x64 [1, 2]) = .next t := ⟨by decide, _, rfl⟩

/-- O39: an operation fetched with no turn listed and with CODEC's listed; nothing fetched; a header in `DISPATCH`. -/
theorem test_witness_Step : (running .crc8).sched = [] ∧ (running .crc8).fetch = some .crc8 ∧
    (let s := { running .encOpen with sched := [.codec, .codec] }
     s.sched = .codec :: [.codec] ∧ s.fetch = some .encOpen) ∧
    State.reset.sched = [] ∧ State.reset.fetch = none ∧ State.reset.rst = false ∧
    (let s := dispatching 0x6F []
     s.op = .decode ∧ s.rxState = .dispatch ∧ s.ackPend = none ∧ s.rst = false ∧
       decode s.cfg (.header (headerBytes s.len s.ver s.typ)) = .ok (.rxOpen 7 2)) ∧
    (decoding .readType []).op = .decode ∧ (decoding .readType []).rxState ≠ .dispatch := by decide

/-- O40, O42: idle after reset and after a result. -/
theorem test_witness_Accepts : State.reset.busy = false ∧ State.reset.rst = false ∧
    ({ State.reset with status := sDONE, resKind := .sent }).busy = false ∧ 65534 < 65535 ∧ 65535 ≤ 65535 := by decide

/-- O41: busy, and held in reset. -/
theorem test_witness_Ignored : (running .decode).busy = true ∧ ({ State.reset with rst := true }).rst = true ∧
    (∃ i v, HostAct.writeTbuf 65534 0 = .writeTbuf i v ∧ i < 65535) := ⟨by decide, by decide, 65534, 0, rfl, by decide⟩

/-- O43: a register of each list, the last index of each buffer that exists, BUSY clear and set, and the first indices that do not exist. -/
theorem test_witness_HostReads : (HostReg.tlen, State.reset.tlen.toNat) ∈ [(HostReg.arg, State.reset.arg.toNat), (.tlen, State.reset.tlen.toNat)] ∧
    65534 < 65535 ∧ 65527 < 65528 ∧ (HostReg.pbuf 65527, (State.reset.pbufByte 65527).toNat, 8) ∈ [(HostReg.pbuf 65527, (State.reset.pbufByte 65527).toNat, 8)] ∧
    State.reset.busy = false ∧ (running .decode).busy = true ∧ 65535 ≤ 65535 ∧ 65528 ≤ 65528 :=
  ⟨by decide, by decide, by decide, List.mem_singleton.2 rfl, by decide, by decide, le_refl _, le_refl _⟩

/-- R36, R35: a host read of `RES_KIND` gives the kind's number, one of `DISCARD` the saturated count, and none of `CMD`. -/
theorem test_hostRead :
    hostRead .resKind { State.reset with status := sDONE, resKind := .rejected } =
      .next { State.reset with status := sDONE, resKind := .rejected, hostRd := some 13 } ∧
    hostRead .discard { State.reset with discard := 2 ^ 32 + 5 } = .next { State.reset with discard := 2 ^ 32 + 5, hostRd := some 0xFFFFFFFF } ∧
    hostRead .cmd State.reset = .fault .notReadable ∧ hostRead (.pbuf 65528) State.reset = .fault .noSuchIndex := ⟨rfl, rfl, rfl, rfl⟩

/-- O44: reset in the middle of an operation. -/
theorem test_witness_Reset : (rstTurn true (decoding .readCrc [1, 2])).rst = true ∧ (rstTurn true (decoding .readCrc [1, 2])).rxq = [1, 2] := by decide

/-- O46: one listed turn of each kind. -/
theorem test_witness_Environment : ∀ u ∈ [Turn.rx (.deliver 1), .rx .fail, .rx .recover, .tx .hold],
    ({ State.reset with sched := [u] }).sched = u :: [] := by decide

/-- O48, O53 to O56: a `DECODE` in the middle of a frame has the invariant, and steps; also one whose reply has been handed over. -/
theorem test_witness_Inv : Inv (decoding .readVersion [0x02]) ∧ Inv (dispatching 0x6F []) ∧ Inv (handed (dispatching 0x6F [])) ∧
    (∃ t, step (decoding .readVersion [0x02]) = .next t) ∧ (∃ t, codecTurn (dispatching 0x6F []) = .next t) ∧
    (∃ t, step (handed (dispatching 0x6F [])) = .next t) := by
  refine ⟨?_, ?_, ?_, ⟨_, rfl⟩, ⟨_, rfl⟩, ⟨_, rfl⟩⟩ <;> constructor <;>
    simp [handed, decoding, dispatching, running, State.reset, RxState.pastPayload, Memory.empty, Memory.wf, buffer, lenOk, plenOf, State.payloadWritten]

/-- O49: a `DECODE` with a version fault flagged and its ack due has the invariant of the flags, and steps. -/
theorem test_witness_FlagsInv : FlagsInv { decoding .readVersion [] with ver := 3, flags := fVERSION, ackPend := some 2 } ∧
    ∃ t, step { decoding .readVersion [] with ver := 3, flags := fVERSION, ackPend := some 2 } = .next t := by
  refine ⟨?_, ⟨_, rfl⟩⟩
  constructor <;> simp [decoding, running, State.reset, RxState.pastPayload, RxState.pastVersion, State.hasFlag, ResKind.dispatched]

/-- O49: an unknown type whose ack has been handed over, and a malformed ack completed, have it too. -/
theorem test_witness_FlagsInv_dispatch :
    FlagsInv (handed { dispatching 0x7A [] with endb := END, flags := fTYPE }) ∧
    FlagsInv { State.reset with status := sDONE, resKind := .unknownAck, resTag := 0x61, typ := 0x61, len := 7, flags := fACKFORM } := by
  constructor <;> constructor <;>
    simp [handed, dispatching, decoding, running, State.reset, RxState.pastPayload, RxState.pastVersion, State.hasFlag, ResKind.dispatched, ResKind.isAck,
      State.typeUnknown, Config.default, lenOk, plenOf]

/-- O50: a history that is empty, and a step that sends. -/
theorem test_witness_FramesSent : (∀ f ∈ (running .encOpen).txh, FrameWellFormed f) ∧
    ∃ t, step (running .encOpen) = .next t ∧ t.txh = [[0xAA, 0x00, 0x07, 0x02, 0x6F, 0xD7, 0xBB]] := by
  refine ⟨?_, _, rfl, ?_⟩
  · simp [running, State.reset]
  · decide +kernel

/-- O51, O52, O57: operations that answer a next state. -/
theorem test_witness_Next : (∃ t, exec .crc8 (running .crc8) = .next t) ∧ (∃ t, exec .decode (decoding .readEnd [0xBB]) = .next t) ∧
    (∃ t, step State.reset = .next t) := ⟨⟨_, rfl⟩, ⟨_, rfl⟩, ⟨_, rfl⟩⟩

/-- O52: a byte other than `0xAA`, and an empty queue, keep `SEEK_START`. -/
theorem test_witness_SeekStays : ∀ q ∈ [[0xAB], []], (decoding .seekStart q).ackPend = none ∧
    (place (exec .decode (decoding .seekStart q))).map Place.state = some .seekStart := by decide +kernel

/-- O53, O54: no fault set; a turn of another agent. -/
theorem test_witness_OtherTurns : (decoding .readVersion [0x02]).rxFault = false ∧ Turn.rx (.deliver 5) ≠ .codec ∧
    ∃ t, takeTurn (.rx (.deliver 5)) State.reset = .next t := ⟨by decide, by decide, _, rfl⟩

/-- O55: the ack of a version fault is appended; distinct tags. -/
theorem test_witness_FourCodes :
    let s := { decoding .readVersion [] with ver := 3, flags := fVERSION, ackPend := some 2 }
    Inv s ∧ s.cfg.distinct ∧ s.op ≠ .encAck ∧
      ∃ t, codecTurn s = .next t ∧ t.txh = s.txh ++ [frame 0x61 [2]] ∧ (frame 0x61 [2]).getD 4 0 = s.cfg.tagAck := by
  refine ⟨?_, by decide, by decide, _, rfl, by decide +kernel, by decide⟩
  constructor <;> simp [decoding, running, State.reset, RxState.pastPayload, Memory.empty, Memory.wf]

/-- O56: a running `DECODE` with a byte; `DISPATCH`; a malformed length in `READ_PAYLOAD`. -/
theorem test_witness_Consumed :
    (let s := decoding .readVersion [0x02]
     s.op = .decode ∧ s.rst = false ∧ s.rxFault = false ∧ ∃ t, codecTurn s = .next t ∧ t.op = .decode) ∧
    (dispatching 0x6F []).rxState = .dispatch ∧
    (let s := { decoding .readPayload [] with len := 6 }
     Inv s ∧ s.rxState = .readPayload ∧ s.len.toNat < 7) := by
  refine ⟨⟨rfl, rfl, rfl, _, rfl, rfl⟩, rfl, ?_, rfl, by decide⟩
  constructor <;> simp [decoding, running, State.reset, RxState.pastPayload, Memory.empty, Memory.wf, lenOk, State.payloadWritten]

/-- O58, O60: an accepted `DECODE` with two garbage bytes and a data frame, or with an echo frame. -/
theorem test_witness_CleanFrame : ∀ q ∈ [[0x00, 0xBB] ++ frame 0x64 [0x48, 0x69] ++ [0xAA], frame 0x65 [] ++ []],
    let s := decoding .seekStart q
    s.rst = false ∧ s.sched = [] ∧ s.op = .decode ∧ s.rxState = .seekStart ∧ s.ackPend = none ∧ s.txDone = false ∧ s.flags = 0 ∧ s.discard = 0 ∧
      s.rxFault = false ∧ s.txEnv = .accept ∧ s.cfg.distinct ∧ s.rxq = q ∧ 0xAA ∉ ([0x00, 0xBB] : List Byte) ∧ s.cfg.tagEcho = 0x65 := by
  decide +kernel

/-- O59: a sender whose frame is in the receiver's queue. -/
theorem test_witness_RoundTrip : ∃ a' f, exec .encData (commanding .encData [0x48, 0x69] 0) = .next a' ∧
    a'.txh = (commanding .encData [0x48, 0x69] 0).txh ++ [f] ∧ f = [0xAA, 0x00, 0x09, 0x02, 0x64, 0x48, 0x69, 0xB2, 0xBB] ∧
    (commanding .encData [0x48, 0x69] 0).txEnv = .accept ∧ (commanding .encData [0x48, 0x69] 0).txDone = false ∧ (commanding .encData [0x48, 0x69] 0).tlen.toNat ≤ 65528 ∧
    (commanding .encData [0x48, 0x69] 0).cfg = (decoding .seekStart ([0x13] ++ f ++ [])).cfg ∧ 0xAA ∉ ([0x13] : List Byte) := by
  refine ⟨_, [0xAA, 0x00, 0x09, 0x02, 0x64, 0x48, 0x69, 0xB2, 0xBB], rfl, ?_, rfl, ?_, ?_, ?_, ?_, ?_⟩ <;> decide +kernel

end Sys2Proof.Tests
end

/-! The one frame that an encode command or a dispatch operation ends with (00_scope.md R18): the hand-over is a step of its own, and the result the step after it. -/

namespace Sys2Proof.Machine

/-! ### The hand-over, by what the transport does (20_memory.md R65) -/

theorem State.handOver_of_accept {s : State} (he : s.txEnv = .accept) (tag : Byte) (p : List Byte) :
    s.handOver tag p = { s with crcw := frameCrc tag p, txh := s.txh ++ [frame tag p], txDone := true } := by
  simpa [he] using State.handOver_cases tag p s

theorem State.handOver_of_fail {s : State} (he : s.txEnv = .fail) (tag : Byte) (p : List Byte) :
    s.handOver tag p = State.transportFault { s with crcw := frameCrc tag p } := by
  simpa [he] using State.handOver_cases tag p s

theorem State.handOver_of_hold {s : State} (he : s.txEnv = .hold) (tag : Byte) (p : List Byte) :
    s.handOver tag p = { s with crcw := frameCrc tag p } := by
  simpa [he] using State.handOver_cases tag p s

/-! ### The three operations that send a frame, before and after its hand-over -/

theorem State.emitAndFinish_of_unsent {s : State} (hd : s.txDone = false) (tag : Byte) (p : List Byte) :
    s.emitAndFinish tag p = s.handOver tag p := by
  simp [State.emitAndFinish, hd]

theorem State.emitAndFinish_of_sent {s : State} (hd : s.txDone = true) (tag : Byte) (p : List Byte) :
    s.emitAndFinish tag p = s.finish .sent := by
  simp [State.emitAndFinish, hd]

theorem State.replyThenFinish_of_unsent {s : State} (hd : s.txDone = false) (tag : Byte) (p : List Byte) (k : ResKind) :
    s.replyThenFinish tag p k = s.handOver tag p := by
  simp [State.replyThenFinish, hd]

theorem State.replyThenFinish_of_sent {s : State} (hd : s.txDone = true) (tag : Byte) (p : List Byte) (k : ResKind) :
    s.replyThenFinish tag p k = s.finishNoPayload k := by
  simp [State.replyThenFinish, hd]

theorem State.unknownType_of_unsent {s : State} (hd : s.txDone = false) :
    s.unknownType = (s.setFlag fTYPE).handOver s.cfg.tagAck [ERR_TYPE] := by
  simp [State.unknownType, hd]

theorem State.unknownType_of_sent {s : State} (hd : s.txDone = true) :
    s.unknownType = s.finishNoPayload .unknownType := by
  simp [State.unknownType, hd]

/-! ### The rows that send a frame -/

/-- The encode commands, each with the type byte and the payload of its frame (41_encode.md R158 to R162). -/
def State.encodeRows (s : State) : List (Instr × Byte × List Byte) :=
  [(.encData, s.cfg.tagData, s.operand), (.encEcho, s.cfg.tagEcho, s.operand), (.encAck, s.cfg.tagAck, [s.arg]),
    (.encOpen, TAG_OPEN, []), (.encClose, s.cfg.tagClose, [])]

/-- An operand that passes the check of R152 goes out as the frame's payload. -/
theorem State.emitOperand_of_fits {s : State} (hfit : s.tlen.toNat ≤ PAYLOAD_MAX) (tag : Byte) :
    s.emitOperand tag = s.emitAndFinish tag s.operand :=
  if_pos (decide_eq_true hfit)

theorem exec_of_mem_encodeRows {s : State} {i : Instr} {tag : Byte} {p : List Byte}
    (hfit : i = .encData ∨ i = .encEcho → s.tlen.toNat ≤ PAYLOAD_MAX) (hi : (i, tag, p) ∈ s.encodeRows) :
    exec i s = .next (s.emitAndFinish tag p) := by
  simp only [State.encodeRows, List.mem_cons, List.not_mem_nil, or_false, Prod.mk.injEq] at hi
  obtain ⟨rfl, rfl, rfl⟩ | ⟨rfl, rfl, rfl⟩ | ⟨rfl, rfl, rfl⟩ | ⟨rfl, rfl, rfl⟩ | ⟨rfl, rfl, rfl⟩ := hi
  case inl => exact congrArg Host.Outcome.next (State.emitOperand_of_fits (hfit (.inl rfl)) _)
  case inr.inl => exact congrArg Host.Outcome.next (State.emitOperand_of_fits (hfit (.inr rfl)) _)
  all_goals rfl

/-- The dispatch operations that answer with a reply: the type byte received, the reply's type byte and payload, and the kind of the result (43_dispatch.md R206 to R208). -/
def State.replyRows (s : State) (len : Half) (ver : Byte) : List (Instr × Byte × Byte × List Byte × ResKind) :=
  [(.rxOpen len ver, TAG_OPEN, TAG_OPEN, [], .openFrame), (.rxClose len ver, s.cfg.tagClose, s.cfg.tagClose, [], .closeFrame),
    (.rxEcho len ver, s.cfg.tagEcho, s.cfg.tagData, s.payload len, .echo)]

/-- With a length field of 7 or more dispatch is entered, and `RES_TAG` is written first (R123, R200). -/
theorem State.enterDispatch_of_le {len : Half} (hlen : OVERHEAD ≤ len.toNat) (typ : Byte) (s : State)
    (k : State → Host.Outcome State Fault Refusal) : s.enterDispatch len typ k = k { s with resTag := typ } :=
  if_pos (decide_eq_true hlen)

theorem exec_of_mem_replyRows {s : State} {len : Half} {ver : Byte} {i : Instr} {typ tag : Byte} {p : List Byte} {k : ResKind}
    (hlen : OVERHEAD ≤ len.toNat) (hi : (i, typ, tag, p, k) ∈ s.replyRows len ver) :
    exec i s = .next (State.replyThenFinish tag p k { s with resTag := typ }) := by
  simp only [State.replyRows, List.mem_cons, List.not_mem_nil, or_false, Prod.mk.injEq] at hi
  obtain ⟨rfl, rfl, rfl, rfl, rfl⟩ | ⟨rfl, rfl, rfl, rfl, rfl⟩ | ⟨rfl, rfl, rfl, rfl, rfl⟩ := hi
  case inl => exact State.enterDispatch_of_le hlen _ s fun s => .next (s.replyThenFinish TAG_OPEN [] .openFrame)
  case inr.inl => exact State.enterDispatch_of_le hlen _ s fun s => .next (s.replyThenFinish s.cfg.tagClose [] .closeFrame)
  case inr.inr => exact State.enterDispatch_of_le hlen _ s fun s => .next (s.replyThenFinish s.cfg.tagData (s.payload len) .echo)

theorem exec_rxUnknown {len : Half} (hlen : OVERHEAD ≤ len.toNat) (ver typ : Byte) (s : State) :
    exec (.rxUnknown len ver typ) s = .next (State.unknownType { s with resTag := typ }) :=
  State.enterDispatch_of_le hlen typ s fun s => .next s.unknownType

/-! ### The obligations -/

/-- Settles O14: each row of `encodeRows` is `emitAndFinish`, whose two steps are told apart by `txDone`. -/
theorem encodeCommandsSendOneFrame : Obligations.EncodeCommandsSendOneFrame := by
  intro s i tag p hfit hi
  rw [exec_of_mem_encodeRows hfit hi]
  constructor
  · intro hd he
    rw [State.emitAndFinish_of_unsent hd, State.handOver_of_accept he]
  · intro hd
    rw [State.emitAndFinish_of_sent hd]
    rfl

/-- Settles O33: each row of `replyRows` is `replyThenFinish` after `RES_TAG` is written, and `txDone` tells the reply from the result. -/
theorem repliesAreSentBeforeTheResult : Obligations.RepliesAreSentBeforeTheResult := by
  intro s len ver i typ tag p k hlen hi
  rw [exec_of_mem_replyRows hlen hi]
  constructor
  · intro hd he
    simp only [hd, he, State.replyThenFinish_of_unsent, State.handOver_of_accept]
  · intro hd
    simp only [hd, State.replyThenFinish_of_sent]
    rfl

/-- Settles O35: `RX_UNKNOWN` is `unknownType` after `RES_TAG` is written; unsent, its hand-over follows the transport's answer. -/
theorem rxUnknownAcknowledgesType : Obligations.RxUnknownAcknowledgesType := by
  refine ⟨fun s len ver typ hlen => ?_, by decide +kernel⟩
  rw [exec_rxUnknown hlen]
  refine ⟨fun hd he => ?accept, fun hd => ?sent, fun hd he => ?fail, fun hd he => ?hold⟩
  case accept => simp only [hd, he, State.unknownType_of_unsent, State.handOver_of_accept, State.setFlag]
  case sent =>
    simp only [hd, State.unknownType_of_sent]
    rfl
  case fail =>
    simp only [hd, he, State.unknownType_of_unsent, State.handOver_of_fail, State.setFlag]
    rfl
  case hold => simp only [hd, he, State.unknownType_of_unsent, State.handOver_of_hold, State.setFlag]

end Sys2Proof.Machine

/-! What a turn of CODEC can do, said once (42_decode.md R171 to R185, 43_dispatch.md R203 to R210, 41_encode.md R150 to R162): a relation for each kind of operation, which the statements about every step are derived from by its cases. -/

namespace Sys2Proof.Machine

/-! ### The steps of `DECODE` -/

/-- What `DECODE` does with a byte `b` it has received, by the state of the sequencer. -/
inductive ByteMove (b : Byte) (s : State) : State → Prop
  | start : s.rxState = .seekStart → b = START → ByteMove b s { s with rxState := .readLength, cnt := 0 }
  | drop : s.rxState = .seekStart → b ≠ START → ByteMove b s { s.setFlag fRESYNC with discard := s.discard + 1 }
  | lengthHigh : s.rxState = .readLength → s.cnt = 0 → ByteMove b s { s with len := ofBytes b 0, cnt := 1 }
  | lengthLow : s.rxState = .readLength → s.cnt ≠ 0 →
      ByteMove b s { s with len := ofBytes (hiByte s.len) b, cnt := s.cnt + 1, rxState := .readVersion }
  | version : s.rxState = .readVersion → b = VERSION → ByteMove b s { s with ver := b, rxState := .readType }
  | versionFault : s.rxState = .readVersion → b ≠ VERSION →
      ByteMove b s (State.protocolFault fVERSION ERR_VERSION { s with ver := b })
  | type : s.rxState = .readType → ByteMove b s { s with typ := b, rxState := .readPayload, cnt := 0 }
  | payload : s.rxState = .readPayload → lenOk s.len = true → s.cnt.toNat < (plenOf s.len).toNat →
      ByteMove b s { s with pbuf := s.pbuf.write s.cnt.toNat b, cnt := s.cnt + 1 }
  | crc : s.rxState = .readCrc → b = s.expectedCrc →
      ByteMove b s { s with rcrc := b, expc := s.expectedCrc, crcw := s.expectedCrc, rxState := .readEnd }
  | crcFault : s.rxState = .readCrc → b ≠ s.expectedCrc →
      ByteMove b s (State.protocolFault fCRC ERR_CRC { s with rcrc := b, expc := s.expectedCrc, crcw := s.expectedCrc })
  | ending : s.rxState = .readEnd → b = END → ByteMove b s { s with endb := b, rxState := .dispatch }
  | endingFault : s.rxState = .readEnd → b ≠ END → ByteMove b s (State.protocolFault fENDING ERR_ENDING { s with endb := b })

/-- What a step of `DECODE` can do: wait for a byte, fail with the transport, hand over or hold the fault `ack` that is due, take a byte, pass from a payload that is whole, end at a malformed length, or run the dispatch operation. -/
inductive DecodeMove (s : State) : State → Prop
  | wait : s.rxq = [] → DecodeMove s s
  | transport (q : List Byte) (d : Nat) (c : Byte) :
      DecodeMove s (State.transportFault { s with rxq := q, draws := d, crcw := c })
  | ackHeld (c : Byte) : s.ackPend = some c → DecodeMove s { s with crcw := frameCrc s.cfg.tagAck [c] }
  | ackSent (c : Byte) : s.ackPend = some c →
      DecodeMove s { s with crcw := frameCrc s.cfg.tagAck [c], txh := s.txh ++ [frame s.cfg.tagAck [c]],
                            ackPend := none, rxState := s.rxState.afterAck }
  | begin : s.ackPend = none → s.rxState = .idle → DecodeMove s { s with rxState := .seekStart }
  | byte (b : Byte) (q : List Byte) (d : Nat) (t : State) : s.ackPend = none → s.rxq = b :: q →
      ByteMove b { s with rxq := q, draws := d } t → DecodeMove s t
  | payloadEnd : s.ackPend = none → s.rxState = .readPayload → lenOk s.len = true → ¬ s.cnt.toNat < (plenOf s.len).toNat →
      DecodeMove s { s with rxState := .readCrc }
  | malformed : s.ackPend = none → s.rxState = .readPayload → lenOk s.len = false → DecodeMove s s.malformedLength
  | dispatch (t : State) : s.ackPend = none → s.rxState = .dispatch → dispatch s = .next t → DecodeMove s t

/-- An `RxRead(1)` of `DECODE` waits, fails, or takes a byte (R62, R63). -/
theorem DecodeMove.of_rxRead {s : State} (ha : s.ackPend = none) (k : Byte → State → State)
    (hk : ∀ b q d, ByteMove b { s with rxq := q, draws := d } (k b { s with rxq := q, draws := d })) :
    DecodeMove s (s.rxRead k) := by
  obtain ⟨hq, _, h⟩ | ⟨_, _, h⟩ | ⟨_, _, _, _, h⟩ | ⟨b, q, hq, _, h⟩ | ⟨b, q, hq, _, h⟩ := State.rxRead_cases s k <;> rw [h]
  · exact .wait hq
  · exact .transport _ _ _
  · exact .transport _ _ _
  · exact .byte b q _ _ ha hq (hk b q _)
  · exact .byte b q _ _ ha hq (hk b q _)

theorem DecodeMove.sendPendingAck {s : State} {c : Byte} (hc : s.ackPend = some c) : DecodeMove s (s.sendPendingAck c) := by
  unfold State.sendPendingAck State.sendAck
  obtain ⟨_, h⟩ | ⟨_, h⟩ | ⟨_, h⟩ := State.emit_cases s.cfg.tagAck [c] s
    (fun s => { s with ackPend := none, rxState := s.rxState.afterAck }) <;> rw [h]
  · exact .ackSent c hc
  · exact .transport _ _ _
  · exact .ackHeld c hc

theorem DecodeMove.seekStart {s : State} (ha : s.ackPend = none) (hs : s.rxState = .seekStart) : DecodeMove s s.seekStart :=
  .of_rxRead ha _ fun b _ _ => by
    split
    · exact .start hs ‹_›
    · exact .drop hs ‹_›

theorem DecodeMove.readLength {s : State} (ha : s.ackPend = none) (hs : s.rxState = .readLength) : DecodeMove s s.readLength :=
  .of_rxRead ha _ fun b _ _ => by
    split
    · exact .lengthHigh hs ‹_›
    · exact .lengthLow hs ‹_›

theorem DecodeMove.readVersion {s : State} (ha : s.ackPend = none) (hs : s.rxState = .readVersion) : DecodeMove s s.readVersion :=
  .of_rxRead ha _ fun b _ _ => by
    split
    · exact .version hs ‹_›
    · exact .versionFault hs ‹_›

theorem DecodeMove.readPayload {s : State} (ha : s.ackPend = none) (hs : s.rxState = .readPayload) : DecodeMove s s.readPayload := by
  unfold State.readPayload
  cases hl : lenOk s.len with
  | false => exact .malformed ha hs hl
  | true =>
    simp only [if_true]
    split
    case isTrue hc => exact .of_rxRead ha _ fun b _ _ => .payload hs hl hc
    case isFalse hc => exact .payloadEnd ha hs hl hc

theorem DecodeMove.readCrc {s : State} (ha : s.ackPend = none) (hs : s.rxState = .readCrc) : DecodeMove s s.readCrc :=
  .of_rxRead ha _ fun b _ _ => by
    split
    · exact .crc hs ‹_›
    · exact .crcFault hs ‹_›

theorem DecodeMove.readEnd {s : State} (ha : s.ackPend = none) (hs : s.rxState = .readEnd) : DecodeMove s s.readEnd :=
  .of_rxRead ha _ fun b _ _ => by
    split
    · exact .ending hs ‹_›
    · exact .endingFault hs ‹_›

/-- The inversion of `DECODE` (R171). -/
theorem decodeMove_of_exec {s t : State} (h : exec .decode s = .next t) : DecodeMove s t := by
  change execDecode s = .next t at h
  unfold execDecode at h
  split at h
  case h_1 c ha => cases h; exact .sendPendingAck ha
  case h_2 ha =>
    split at h
    case h_1 hs => cases h; exact .begin ha hs
    case h_2 hs => cases h; exact .seekStart ha hs
    case h_3 hs => cases h; exact .readLength ha hs
    case h_4 hs => cases h; exact .readVersion ha hs
    case h_5 hs => cases h; exact .of_rxRead ha _ fun b _ _ => .type hs
    case h_6 hs => cases h; exact .readPayload ha hs
    case h_7 hs => cases h; exact .readCrc ha hs
    case h_8 hs => cases h; exact .readEnd ha hs
    case h_9 hs => exact .dispatch t ha hs h

/-! ### Dispatch -/

/-- What dispatch can do with the frame whose header the registers hold: report a result, or hand over the reply that comes before it (R213); the last case is the length that no header in `DISPATCH` has (R178). -/
inductive DispatchMove (s : State) : State → Prop
  | data : s.typ = s.cfg.tagData → DispatchMove s (State.finish .data { s with resTag := s.typ, resPlen := plenOf s.len })
  | ack (k : ResKind) (c : Byte) : k.isAck → ¬ s.typeUnknown → s.typ = s.cfg.tagAck → plenOf s.len = 1 →
      DispatchMove s (State.finishNoPayload k { s with resTag := s.typ, resCode := c })
  | ackForm (k : ResKind) (c : Byte) : k.isAck → ¬ s.typeUnknown → s.typ = s.cfg.tagAck → plenOf s.len ≠ 1 →
      DispatchMove s (State.finishNoPayload k { s.setFlag fACKFORM with resTag := s.typ, resCode := c })
  | known (k : ResKind) : k ∈ [ResKind.openFrame, .closeFrame, .echo, .test] → ¬ s.typeUnknown →
      DispatchMove s (State.finishNoPayload k { s with resTag := s.typ })
  | reply (tag : Byte) (p : List Byte) : ¬ s.typeUnknown → DispatchMove s (State.handOver tag p { s with resTag := s.typ })
  | unknown : s.typeUnknown → s.txDone = true → DispatchMove s (State.finishNoPayload .unknownType { s with resTag := s.typ })
  | unknownAck : s.typeUnknown →
      DispatchMove s (State.handOver s.cfg.tagAck [ERR_TYPE] { s.setFlag fTYPE with resTag := s.typ })
  | malformed : lenOk s.len = false → DispatchMove s s.malformedLength

/-- The receipt of a code byte is an `ack` result without payload (R203). -/
theorem State.ackReceipt_eq (c : Byte) (s : State) :
    ∃ k : ResKind, k.isAck ∧ s.ackReceipt c = State.finishNoPayload k { s with resCode := c } :=
  ⟨if c.toNat ≤ 6 then .ack else .unknownAck, by by_cases hc : c.toNat ≤ 6 <;> simp [ResKind.isAck, hc], rfl⟩

theorem DispatchMove.replyThenFinish {s : State} (tag : Byte) (p : List Byte) {k : ResKind}
    (hk : k ∈ [ResKind.openFrame, .closeFrame, .echo, .test]) (ht : ¬ s.typeUnknown) :
    DispatchMove s (State.replyThenFinish tag p k { s with resTag := s.typ }) := by
  obtain hd | hd := Bool.eq_false_or_eq_true s.txDone
  · rw [State.replyThenFinish_of_sent (s := { s with resTag := s.typ }) hd]; exact .known k hk ht
  · rw [State.replyThenFinish_of_unsent (s := { s with resTag := s.typ }) hd]; exact .reply tag p ht

theorem DispatchMove.unknownType {s : State} (ht : s.typeUnknown) :
    DispatchMove s (State.unknownType { s with resTag := s.typ }) := by
  obtain hd | hd := Bool.eq_false_or_eq_true s.txDone
  · rw [State.unknownType_of_sent (s := { s with resTag := s.typ }) hd]; exact .unknown ht hd
  · rw [State.unknownType_of_unsent (s := { s with resTag := s.typ }) hd]; exact .unknownAck ht

/-- `RX_ACK` (R203, R204). -/
theorem dispatchMove_of_execRxAck {s t : State} (ht : s.typ = s.cfg.tagAck) (h : execRxAck s.len s.ver s = .next t) :
    DispatchMove s t := by
  have hk : ¬ s.typeUnknown := fun hu => hu.1 (by simp [ht])
  unfold execRxAck at h
  rw [← ht] at h
  obtain ⟨_, he⟩ | ⟨hl, he⟩ := State.enterDispatch_cases s.len s.typ s _ <;> rw [he] at h
  case inr => cases h; exact .malformed hl
  split at h
  case isTrue hp =>
    obtain ⟨k, ha, e⟩ := State.ackReceipt_eq (s.pbufByte 0) { s with resTag := s.typ }
    cases (runAckCode_eq _ _).symm.trans h
    exact e ▸ .ack k _ ha hk ht hp
  case isFalse hp =>
    split at h
    · cases h; exact .ackForm .unknownAck 0 (.inr rfl) hk ht hp
    · obtain ⟨k, ha, e⟩ := State.ackReceipt_eq (s.pbufByte 0) { s.setFlag fACKFORM with resTag := s.typ }
      cases (runAckCode_eq _ _).symm.trans h
      exact e ▸ .ackForm k _ ha hk ht hp

/-- A dispatch operation with type byte `s.typ` is `k` after `RES_TAG` is written, or meets a malformed length (R200, R123). -/
theorem DispatchMove.of_enterDispatch {s t : State} {typ : Byte} (ht : s.typ = typ) (k : State → Host.Outcome State Fault Refusal)
    (h : s.enterDispatch s.len typ k = .next t) (hk : k { s with resTag := s.typ } = .next t → DispatchMove s t) :
    DispatchMove s t := by
  subst ht
  obtain ⟨_, he⟩ | ⟨hl, he⟩ := State.enterDispatch_cases s.len s.typ s k <;> rw [he] at h
  · exact hk h
  · cases h; exact .malformed hl

/-- The inversion of `Dispatch()` (R200). -/
theorem dispatchMove_of_dispatch {s t : State} (h : dispatch s = .next t) : DispatchMove s t := by
  unfold dispatch at h
  split at h
  case isTrue hd => exact .of_enterDispatch hd _ h fun h => by cases h; exact .data hd
  split at h
  case isTrue ha => exact dispatchMove_of_execRxAck ha h
  split at h
  case isTrue ho =>
    exact .of_enterDispatch ho _ h fun h => by
      cases h; exact .replyThenFinish _ _ (by decide) fun hu => hu.1 (by simp [ho])
  split at h
  case isTrue hc =>
    exact .of_enterDispatch hc _ h fun h => by
      cases h; exact .replyThenFinish _ _ (by decide) fun hu => hu.1 (by simp [hc])
  split at h
  case isTrue he =>
    exact .of_enterDispatch he _ h fun h => by
      cases h; exact .replyThenFinish _ _ (by decide) fun hu => hu.1 (by simp [he])
  rename_i hd ha ho hc he
  have hu : s.typ ∉ [s.cfg.tagData, s.cfg.tagAck, TAG_OPEN, s.cfg.tagClose, s.cfg.tagEcho] := by
    simp only [List.mem_cons, List.not_mem_nil, or_false, not_or]
    exact ⟨hd, ha, ho, hc, he⟩
  split at h
  case isTrue ht =>
    refine .of_enterDispatch ht _ h fun h => ?_
    split at h
    case isTrue hk => cases h; exact .known .test (by decide) fun hu => hu.2 ⟨ht, hk⟩
    case isFalse hk => cases h; exact .unknownType ⟨hu, fun h => hk h.2⟩
  case isFalse ht =>
    exact .of_enterDispatch rfl _ h fun h => by
      cases h; exact .unknownType ⟨hu, fun h => ht h.1⟩

/-! ### The other commands -/

/-- The values of `op` for the commands that send a frame. -/
def Op.encodes : List Op := [.encData, .encAck, .encOpen, .encClose, .encEcho]

/-- What a step of a command other than `DECODE` can do: report its result, or hand over its frame. -/
inductive CommandMove (s : State) : State → Prop
  | result (k : ResKind) (c r : Byte) : k ∈ [ResKind.crcDone, .rejected, .sent] →
      CommandMove s (State.finish k { s with crcw := c, resCrc := r })
  | handOver (tag : Byte) (p : List Byte) : s.op ∈ Op.encodes → CommandMove s (s.handOver tag p)

theorem CommandMove.emitAndFinish {s : State} (ho : s.op ∈ Op.encodes) (tag : Byte) (p : List Byte) :
    CommandMove s (s.emitAndFinish tag p) := by
  cases hd : s.txDone with
  | false => rw [State.emitAndFinish_of_unsent hd]; exact .handOver tag p ho
  | true => rw [State.emitAndFinish_of_sent hd]; exact .result .sent _ _ (by decide)

theorem CommandMove.emitOperand {s : State} (ho : s.op ∈ Op.encodes) (tag : Byte) : CommandMove s (s.emitOperand tag) := by
  unfold State.emitOperand
  split
  · exact .emitAndFinish ho tag _
  · exact .result .rejected _ _ (by decide)

/-- The inversion of CODEC's turn: nothing runs, or `DECODE` does, or another command. -/
theorem codecTurn_cases {s t : State} (h : codecTurn s = .next t) :
    t = s ∨ (s.op = .decode ∧ DecodeMove s t) ∨ (s.op ≠ .none ∧ s.op ≠ .decode ∧ CommandMove s t) := by
  cases hr : s.rst with
  | true =>
    have hf : s.fetch = none := if_pos hr
    simp only [codecTurn, hf, Host.Outcome.next.injEq] at h
    exact .inl h.symm
  | false =>
    by_cases hd : s.op = .decode
    · rw [codecTurn_decode hr hd] at h
      exact .inr (.inl ⟨hd, decodeMove_of_exec h⟩)
    cases ho : s.op <;> simp only [codecTurn, State.fetch, hr, ho] at h hd
    case none => cases h; exact .inl rfl
    case decode => exact absurd trivial hd
    all_goals refine .inr (.inr ⟨nofun, nofun, ?_⟩)
    case crc8 => cases h; exact .result .crcDone _ _ (by decide)
    case reserved => cases h; exact .result .rejected _ _ (by decide)
    case encData => cases h; exact .emitOperand (by simp [ho, Op.encodes]) _
    case encEcho => cases h; exact .emitOperand (by simp [ho, Op.encodes]) _
    all_goals cases h; exact .emitAndFinish (by simp [ho, Op.encodes]) _ _

/-! ### Every step -/

/-- `t` is `s` but for the streams, the schedule, the pin, the host's operand registers and its last read, and the two registers that only the block's own working reads. -/
def State.SameInside (s t : State) : Prop :=
  t = { s with rxq := t.rxq, rxFault := t.rxFault, txh := t.txh, txEnv := t.txEnv, sched := t.sched, rst := t.rst,
               draws := t.draws, hostRd := t.hostRd, arg := t.arg, tlen := t.tlen, crcw := t.crcw }

/-- A write of the host takes effect, or changes nothing (R37). -/
theorem keeps_ite_writable {P : State → Prop} {s t : State} (hs : P s) (ht : s.busy = false → P t) :
    P (if s.writable then t else s) := by
  split
  case isTrue hw => exact ht (by simp_all [State.writable])
  case isFalse => exact hs

theorem hostTurn_keeps {P : State → Prop} (outside : ∀ s t, State.SameInside s t → P s → P t)
    (tbuf : ∀ s i v, i < TBUF_SIZE → P s → P { s with tbuf := s.tbuf.write i v })
    (accept : ∀ s c, s.busy = false → P s → P (s.accept c)) {s t : State} {a : HostAct} (hs : P s)
    (h : hostTurn a s = .next t) : P t := by
  cases a with
  | writeCmd c => cases h; exact keeps_ite_writable hs fun hb => accept s c hb hs
  | writeArg v => cases h; exact keeps_ite_writable hs fun _ => outside s _ rfl hs
  | writeTlen v => cases h; exact keeps_ite_writable hs fun _ => outside s _ rfl hs
  | writeTbuf i v =>
    simp only [hostTurn] at h
    split at h
    case isTrue hi => cases h; exact keeps_ite_writable hs fun _ => tbuf s i v hi hs
    case isFalse => cases h
  | read r =>
    simp only [hostTurn, hostRead] at h
    split at h
    case isFalse => cases h
    split at h
    case h_1 => cases h
    split at h <;> cases h <;> exact outside s _ rfl hs

/-- What a step of any agent keeps: enough are the moves of CODEC, an acceptance, a write of `TBUF`, the reset of the registers, and whatever no register inside the block sees. -/
theorem step_keeps {P : State → Prop} (outside : ∀ s t, State.SameInside s t → P s → P t)
    (tbuf : ∀ s i v, i < TBUF_SIZE → P s → P { s with tbuf := s.tbuf.write i v })
    (accept : ∀ s c, s.busy = false → P s → P (s.accept c)) (resetRegs : ∀ s, P s → P s.resetRegs)
    (decode : ∀ s t, s.op = .decode → DecodeMove s t → P s → P t)
    (command : ∀ s t, s.op ≠ .none → s.op ≠ .decode → CommandMove s t → P s → P t)
    {s t : State} (hs : P s) (h : step s = .next t) : P t := by
  have codec : ∀ s t, P s → codecTurn s = .next t → P t := by
    intro s t hs h
    obtain rfl | ⟨ho, hm⟩ | ⟨ho, hd, hm⟩ := codecTurn_cases h
    · exact hs
    · exact decode s t ho hm hs
    · exact command s t ho hd hm hs
  obtain ⟨_, e⟩ | ⟨u, rest, _, e⟩ := step_cases s
  · exact codec s t hs (e ▸ h)
  rw [e] at h
  replace hs : P { s with sched := rest } := outside s _ rfl hs
  generalize { s with sched := rest } = s at hs h
  cases u with
  | codec => exact codec s t hs h
  | host a => exact hostTurn_keeps outside tbuf accept hs h
  | rx a => cases a <;> cases h <;> exact outside s _ rfl hs
  | tx a => cases h; exact outside s _ rfl hs
  | rst level =>
    cases h
    cases level
    · exact outside s _ rfl hs
    · exact outside s.resetRegs _ rfl (resetRegs s hs)

end Sys2Proof.Machine

/-! The invariant of the sequencer, the buffers and the results (10_state.md R23 to R41) is kept by every step of every agent. -/

namespace Sys2Proof.Machine

/-! ### Parts of the invariant -/

/-- Both buffers are in canonical form and in range (R40, R41). -/
def State.BuffersOk (s : State) : Prop :=
  s.tbuf.wf ∧ s.tbuf.within TBUF_SIZE ∧ s.pbuf.wf ∧ s.pbuf.within PBUF_SIZE

/-- What the invariant says of `len`, `cnt` and the stored payload, by the state of the sequencer. -/
def State.Progress (s : State) : Prop :=
  match s.rxState with
  | .readLength => s.cnt.toNat ≤ 1
  | .readPayload =>
    (lenOk s.len = true → s.cnt.toNat ≤ (plenOf s.len).toNat) ∧ (lenOk s.len = false → s.cnt = 0) ∧ s.payloadWritten s.cnt.toNat
  | .readCrc | .readEnd | .dispatch => lenOk s.len = true ∧ s.payloadWritten (plenOf s.len).toNat
  | .idle | .seekStart | .readVersion | .readType => True

theorem State.progress_iff (s : State) : s.Progress ↔
    (s.rxState.pastPayload = true → lenOk s.len = true) ∧ (s.rxState = .readLength → s.cnt.toNat ≤ 1) ∧
    (s.rxState = .readPayload → lenOk s.len = true → s.cnt.toNat ≤ (plenOf s.len).toNat) ∧
    (s.rxState = .readPayload → lenOk s.len = false → s.cnt = 0) ∧
    (s.rxState = .readPayload → s.payloadWritten s.cnt.toNat) ∧
    (s.rxState.pastPayload = true → s.payloadWritten (plenOf s.len).toNat) := by
  unfold State.Progress
  cases s.rxState <;> simp [RxState.pastPayload]

theorem payloadWritten_zero (s : State) : s.payloadWritten 0 := fun _ h => absurd h (Nat.not_lt_zero _)

/-- A received byte extends the stored payload by one (R179). -/
theorem payloadWritten_write {s t : State} {n : Nat} {b : Byte} (h : s.payloadWritten n) (ht : t.pbuf = s.pbuf.write n b) :
    t.payloadWritten (n + 1) := by
  intro a ha
  rw [ht, Memory.get?_write]
  split
  · rfl
  · exact h a (by omega)

theorem plenOf_le (len : Half) (h : lenOk len = true) : (plenOf len).toNat ≤ PAYLOAD_MAX := by
  have h7 : 7 ≤ len.toNat := of_decide_eq_true h
  change (len - 7#16).toNat ≤ 65528
  bv_omega

/-- An accepted code runs an operation (R34, R111). -/
theorem opOfInstr_decodeCmd_ne_none (c : BitVec 3) : opOfInstr (decodeCmd c) ≠ .none := by
  revert c
  decide

/-- Where an acceptance leaves the sequencer (R24). -/
theorem State.accept_rxState (s : State) (c : BitVec 3) : (s.accept c).rxState = .seekStart ∨ (s.accept c).rxState = .idle :=
  ite_eq_or_eq _ _ _

theorem State.accept_rxIdle (s : State) (c : BitVec 3) : (s.accept c).rxState = .idle ↔ (s.accept c).op ≠ .decode := by
  simp only [State.accept]
  split <;> simp_all

theorem ResKind.isAck.ne_none {k : ResKind} (h : k.isAck) : k ≠ .none := by
  rintro rfl
  obtain h | h := h <;> cases h

/-- `DISPATCH` reads no byte. -/
theorem ByteMove.ne_dispatch {b : Byte} {s t : State} (h : ByteMove b s t) : s.rxState ≠ .dispatch := by
  cases h <;> simp_all

namespace Inv

variable {s : State}

theorem buffersOk (h : Inv s) : s.BuffersOk := ⟨h.tbufWf, h.tbufWithin, h.pbufWf, h.pbufWithin⟩

theorem progress (h : Inv s) : s.Progress :=
  s.progress_iff.mpr ⟨h.lenPast, h.cntLength, h.cntPayload, h.cntMalformed, h.payloadSoFar, h.payloadWhole⟩

theorem busy (h : Inv s) (ho : s.op ≠ .none) : s.status = sBUSY := by
  by_contra hs
  exact ho (h.opBusy.mpr hs)

theorem resPlen_of_running (h : Inv s) (ho : s.op ≠ .none) : s.resPlen = 0 := by
  obtain ⟨_, _, hp, _⟩ := h.busyClear (h.busy ho)
  exact hp

/-- No `ack` is due outside a `DECODE`. -/
theorem ackPend_of_not_decode (h : Inv s) (ho : s.op ≠ .decode) : s.ackPend = none := by
  by_contra hne
  obtain ⟨c, hc⟩ := Option.ne_none_iff_exists'.mp hne
  have := h.ackDue c hc
  simp [h.rxIdle.mpr ho] at this

/-- Only in `DISPATCH` has a `DECODE` handed over the frame it ends with. -/
theorem txDone_of_decode (h : Inv s) (ho : s.op = .decode) (hs : s.rxState ≠ .dispatch) : s.txDone = false := by
  by_contra hd
  have := h.sentWhere (by simpa using hd)
  simp [ho, hs] at this

/-! ### The end of an operation -/

theorem finish {k : ResKind} (hb : s.BuffersOk) (hk : k ≠ .none) (hp : s.resPlen ≠ 0 → k = .data) : Inv (s.finish k) := by
  obtain ⟨htw, hti, hpw, hpi⟩ := hb
  exact
    { statusLegal := .inr (.inr rfl), opBusy := by simp, rxIdle := by simp, tbufWf := htw, pbufWf := hpw, tbufWithin := hti,
      pbufWithin := hpi, lenPast := nofun, cntLength := nofun, cntPayload := nofun, cntMalformed := nofun, payloadSoFar := nofun,
      payloadWhole := nofun, ackDue := nofun, sentWhere := nofun, busyClear := by simp, doneKind := fun _ => hk, plenData := hp }

theorem finishNoPayload {k : ResKind} (hb : s.BuffersOk) (hk : k ≠ .none) : Inv (s.finishNoPayload k) :=
  finish (s := { s with resPlen := 0 }) hb hk (by simp)

theorem transportFault (h : Inv s) (ho : s.op ≠ .none) : Inv s.transportFault :=
  finish (s := { s.setFlag fTRANSPORT with pbuf := s.pbuf.forget })
    ⟨h.tbufWf, h.tbufWithin, s.pbuf.wf_forget, s.pbuf.within_forget _⟩ (by simp) (absurd (h.resPlen_of_running ho))

theorem malformedLength (h : Inv s) (ho : s.op ≠ .none) : Inv s.malformedLength :=
  finish (s := s.setFlag fLENGTH) h.buffersOk (by simp) (absurd (h.resPlen_of_running ho))

/-- The frame an operation ends with is accepted, failed or held (R65). -/
theorem handOver (h : Inv s) (ho : s.op ≠ .none)
    (hw : s.op ∈ Op.encodes ∨ (s.op = .decode ∧ s.rxState = .dispatch ∧ s.ackPend = none)) (tag : Byte) (p : List Byte) :
    Inv (s.handOver tag p) := by
  obtain ⟨_, e⟩ | ⟨_, e⟩ | ⟨_, e⟩ := State.handOver_cases tag p s <;> rw [e]
  · exact { h with sentWhere := fun _ => hw }
  · exact transportFault (s := { s with crcw := frameCrc tag p }) { h with } ho
  · exact { h with }

/-! ### The steps of a running `DECODE` -/

/-- The sequencer moves on, with no `ack` due. -/
theorem move (h : Inv s) (ho : s.op = .decode) (hd : s.txDone = false) {t : State}
    (ht : t = { s with rxState := t.rxState, ackPend := none, cnt := t.cnt, len := t.len, ver := t.ver, typ := t.typ, rcrc := t.rcrc,
                       expc := t.expc, endb := t.endb, crcw := t.crcw, pbuf := t.pbuf, txh := t.txh })
    (hi : t.rxState ≠ .idle) (hp : t.Progress) (hb : t.BuffersOk) : Inv t := by
  obtain ⟨h1, h2, h3, h4, h5, h6⟩ := t.progress_iff.mp hp
  obtain ⟨htw, hti, hpw, hpi⟩ := hb
  rw [ht] at *
  exact { h with
    rxIdle := iff_of_false hi (fun hne => hne ho), tbufWf := htw, pbufWf := hpw, tbufWithin := hti, pbufWithin := hpi
    lenPast := h1, cntLength := h2, cntPayload := h3, cntMalformed := h4, payloadSoFar := h5, payloadWhole := h6
    ackDue := nofun, sentWhere := fun hs => nomatch hd.symm.trans hs }

/-- A protocol fault is found in its state: the byte and the crc are stored, and an `ack` is due (R230). -/
theorem protocolFault (h : Inv s) (hd : s.txDone = false) {f c : Byte}
    (hc : (s.rxState = .readVersion ∧ c = ERR_VERSION) ∨ (s.rxState = .readCrc ∧ c = ERR_CRC) ∨
      (s.rxState = .readEnd ∧ c = ERR_ENDING)) : Inv (s.protocolFault f c) :=
  { h with
    ackDue := fun _ hp => Option.some.inj hp ▸ hc
    sentWhere := fun hs => nomatch hd.symm.trans hs }

theorem byteMove {b : Byte} {t : State} (h : Inv s) (ho : s.op = .decode) (ha : s.ackPend = none) (hm : ByteMove b s t) : Inv t := by
  have hb := h.buffersOk
  have hpr := h.progress
  have hd := h.txDone_of_decode ho hm.ne_dispatch
  cases hm with
  | start hs => exact h.move ho hd (by rw [← ha]) nofun (Nat.zero_le 1) hb
  | drop hs => exact { h with }
  | lengthHigh hs => exact h.move ho hd (by rw [← ha]) (by simp [hs]) (by simp [State.Progress, hs]) hb
  | lengthLow hs => exact h.move ho hd (by rw [← ha]) nofun trivial hb
  | version hs => exact h.move ho hd (by rw [← ha]) nofun trivial hb
  | versionFault hs => exact protocolFault (s := { s with ver := b }) { h with } hd (.inl ⟨hs, rfl⟩)
  | type hs =>
    exact h.move ho hd (by rw [← ha]) nofun ⟨fun _ => Nat.zero_le _, fun _ => rfl, payloadWritten_zero _⟩ hb
  | payload hs hl hc =>
    obtain ⟨htw, hti, hpw, hpi⟩ := hb
    simp only [State.Progress, hs] at hpr
    obtain ⟨_, _, hw⟩ := hpr
    have hmax := plenOf_le s.len hl
    have hcnt : (s.cnt + 1).toNat = s.cnt.toNat + 1 := by bv_omega
    refine h.move ho hd (by rw [← ha]) (by simp [hs]) ?_
      ⟨htw, hti, Memory.wf_write hpw _ _, Memory.within_write hpi (by change _ < 65528; change _ ≤ 65528 at hmax; omega) _⟩
    simp only [State.Progress, hs, hl, hcnt]
    exact ⟨fun _ => hc, nofun, payloadWritten_write hw rfl⟩
  | crc hs =>
    simp only [State.Progress, hs] at hpr
    exact h.move ho hd (by rw [← ha]) nofun hpr hb
  | crcFault hs =>
    exact protocolFault (s := { s with rcrc := b, expc := s.expectedCrc, crcw := s.expectedCrc }) { h with } hd
      (.inr (.inl ⟨hs, rfl⟩))
  | ending hs =>
    simp only [State.Progress, hs] at hpr
    exact h.move ho hd (by rw [← ha]) nofun hpr hb
  | endingFault hs => exact protocolFault (s := { s with endb := b }) { h with } hd (.inr (.inr ⟨hs, rfl⟩))

/-- The `ack` of a protocol fault has been handed over, and the sequencer moves on (R79). -/
theorem ackSent {c : Byte} (h : Inv s) (ho : s.op = .decode) (hc : s.ackPend = some c) (w : Byte) (f : List (List Byte)) :
    Inv { s with crcw := w, txh := f, ackPend := none, rxState := s.rxState.afterAck } := by
  have hpr := h.progress
  obtain ⟨hs, _⟩ | ⟨hs, _⟩ | ⟨hs, _⟩ := h.ackDue c hc
  all_goals
    refine h.move ho (h.txDone_of_decode ho (by simp [hs])) rfl (by simp [hs, RxState.afterAck]) ?_ h.buffersOk
    simp only [State.Progress, hs, RxState.afterAck] at hpr ⊢
  all_goals exact hpr

theorem dispatchMove {t : State} (h : Inv s) (ho : s.op = .decode) (hs : s.rxState = .dispatch) (ha : s.ackPend = none)
    (hm : DispatchMove s t) : Inv t := by
  have hn : s.op ≠ .none := by simp [ho]
  have hb := h.buffersOk
  cases hm with
  | data => exact finish (s := { s with resTag := s.typ, resPlen := plenOf s.len }) hb (by simp) fun _ => rfl
  | ack k c hk => exact finishNoPayload (s := { s with resTag := s.typ, resCode := c }) hb hk.ne_none
  | ackForm k c hk =>
    exact finishNoPayload (s := { s.setFlag fACKFORM with resTag := s.typ, resCode := c }) hb hk.ne_none
  | known k hk => exact finishNoPayload (s := { s with resTag := s.typ }) hb (by rintro rfl; simp at hk)
  | reply tag p => exact handOver (s := { s with resTag := s.typ }) { h with } hn (.inr ⟨ho, hs, ha⟩) tag p
  | unknown => exact finishNoPayload (s := { s with resTag := s.typ }) hb (by simp)
  | unknownAck =>
    exact handOver (s := { s.setFlag fTYPE with resTag := s.typ }) { h with } hn (.inr ⟨ho, hs, ha⟩) _ _
  | malformed => exact h.malformedLength hn

theorem decodeMove {t : State} (h : Inv s) (ho : s.op = .decode) (hm : DecodeMove s t) : Inv t := by
  have hn : s.op ≠ .none := by simp [ho]
  cases hm with
  | wait => exact h
  | transport q d c => exact transportFault (s := { s with rxq := q, draws := d, crcw := c }) { h with } hn
  | ackHeld => exact { h with }
  | ackSent c hc => exact h.ackSent ho hc _ _
  | begin _ hs => exact absurd ho (h.rxIdle.mp hs)
  | byte b q d _ ha _ hm => exact byteMove (s := { s with rxq := q, draws := d }) { h with } ho ha hm
  | payloadEnd ha hs hl hc =>
    have hpr := h.progress
    simp only [State.Progress, hs] at hpr
    obtain ⟨hle, _, hw⟩ := hpr
    exact h.move ho (h.txDone_of_decode ho (by simp [hs])) (by rw [← ha]) nofun ⟨hl, le_antisymm (hle hl) (not_lt.mp hc) ▸ hw⟩ h.buffersOk
  | malformed => exact h.malformedLength hn
  | dispatch _ ha hs hd => exact h.dispatchMove ho hs ha (dispatchMove_of_dispatch hd)

/-! ### The other commands, and the other agents -/

theorem commandMove {t : State} (h : Inv s) (ho : s.op ≠ .none) (hm : CommandMove s t) : Inv t := by
  cases hm with
  | result k c r hk =>
    exact finish (s := { s with crcw := c, resCrc := r }) h.buffersOk (by rintro rfl; simp at hk)
      (absurd (h.resPlen_of_running ho))
  | handOver tag p he => exact h.handOver ho (.inl he) tag p

theorem sameInside {t : State} (h : Inv s) (ht : State.SameInside s t) : Inv t := by
  rw [ht]
  exact { h with }

theorem writeTbuf (h : Inv s) {i : Nat} (hi : i < TBUF_SIZE) (v : Byte) : Inv { s with tbuf := s.tbuf.write i v } :=
  { h with tbufWf := Memory.wf_write h.tbufWf i v, tbufWithin := Memory.within_write h.tbufWithin hi v }

theorem accept (h : Inv s) (c : BitVec 3) : Inv (s.accept c) := by
  have hp : (s.accept c).Progress := by obtain hs | hs := s.accept_rxState c <;> simp only [State.Progress, hs]
  obtain ⟨h1, h2, h3, h4, h5, h6⟩ := (s.accept c).progress_iff.mp hp
  exact
    { statusLegal := .inr (.inl rfl), opBusy := iff_of_false (opOfInstr_decodeCmd_ne_none c) (fun hs => hs rfl)
      rxIdle := s.accept_rxIdle c, tbufWf := h.tbufWf, pbufWf := h.pbufWf, tbufWithin := h.tbufWithin, pbufWithin := h.pbufWithin
      lenPast := h1, cntLength := h2, cntPayload := h3, cntMalformed := h4, payloadSoFar := h5, payloadWhole := h6
      ackDue := nofun, sentWhere := nofun, busyClear := fun _ => ⟨rfl, rfl, rfl, rfl⟩, doneKind := nofun, plenData := absurd rfl }

/-- Registers at their reset values satisfy the invariant whatever the rest of the state holds (R48, R260). -/
theorem resetRegs (s : State) : Inv s.resetRegs where
  statusLegal := .inl rfl
  opBusy := iff_of_true rfl (by simp [State.resetRegs])
  rxIdle := iff_of_true rfl nofun
  tbufWf := s.tbuf.wf_forget
  pbufWf := s.pbuf.wf_forget
  tbufWithin := s.tbuf.within_forget _
  pbufWithin := s.pbuf.within_forget _
  lenPast := nofun
  cntLength := nofun
  cntPayload := nofun
  cntMalformed := nofun
  payloadSoFar := nofun
  payloadWhole := nofun
  ackDue := nofun
  sentWhere := nofun
  busyClear := nofun
  doneKind := nofun
  plenData := absurd rfl

end Inv

/-- Settles O48: the invariant holds again after each move of CODEC and each turn of the other agents. -/
theorem everyStepKeepsTheInvariant : Obligations.EveryStepKeepsTheInvariant := fun _ _ hs h =>
  step_keeps (fun _ _ ht h => h.sameInside ht) (fun _ _ v hi h => h.writeTbuf hi v) (fun _ c _ h => h.accept c)
    (fun s _ => Inv.resetRegs s) (fun _ _ ho hm h => h.decodeMove ho hm) (fun _ _ ho _ hm h => h.commandMove ho hm) hs h

end Sys2Proof.Machine

/-! The invariant of `FLAGS` (10_state.md R32, 60_exceptions.md R224, R228) is kept by every step of every agent. A running operation satisfies it in the form `RunningFlags`, a running `DECODE` in the form `DecodeFlags`, and an operation that ends with kind `k` in the form `ResultFlags k`. -/

namespace Sys2Proof.Machine

/-! ### One flag and several -/

theorem State.hasFlag_eq_false {s : State} {f : Byte} : s.hasFlag f = false ↔ s.flags &&& f = 0 := by
  simp [State.hasFlag]

/-- Of several flags one is set. -/
theorem State.hasFlag_or (s : State) (f g : Byte) : s.hasFlag (f ||| g) = (s.hasFlag f || s.hasFlag g) := by
  rw [Bool.eq_iff_iff]
  simp [State.hasFlag, BitVec.and_or_distrib_left]
  tauto

/-- Setting a flag sets it, and leaves the others. -/
theorem State.hasFlag_of_set {s t : State} {f g : Byte} (h : t.flags = s.flags ||| f) (hfg : f &&& g ≠ 0) : t.hasFlag g = true := by
  rw [State.hasFlag, h, BitVec.and_or_distrib_right, bne_iff_ne]
  exact fun h0 => hfg (BitVec.or_eq_zero_iff.mp h0).2

theorem State.hasFlag_of_other {s t : State} {f g : Byte} (h : t.flags = s.flags ||| f) (hfg : f &&& g = 0) :
    t.hasFlag g = s.hasFlag g := by
  rw [State.hasFlag, h, BitVec.and_or_distrib_right, hfg]
  simp [State.hasFlag]

/-- `f` is none of the flags of `l`. -/
def flagApart (f : Byte) (l : List Byte) : Bool := l.all (f &&& · == 0)

theorem and_eq_zero_of_flagApart {f g : Byte} {l : List Byte} (h : flagApart f l = true) (hg : g ∈ l) : f &&& g = 0 :=
  eq_of_beq (List.all_eq_true.mp h g hg)

/-- A flag is read from `FLAGS` alone. -/
theorem State.hasFlag_congr {s t : State} (h : t.flags = s.flags) (f : Byte) : t.hasFlag f = s.hasFlag f :=
  congrArg (fun v => v &&& f != 0) h

/-! ### The places of the sequencer -/

/-- The states in the order of R24. -/
def RxState.inOrder : List RxState :=
  [.idle, .seekStart, .readLength, .readVersion, .readType, .readPayload, .readCrc, .readEnd, .dispatch]

theorem RxState.rank_injective : Function.Injective RxState.rank :=
  Function.LeftInverse.injective (g := fun n => RxState.inOrder.getD n .idle) fun st => by cases st <;> rfl

theorem RxState.pastVersion_iff (st : RxState) : st.pastVersion = true ↔ RxState.readVersion.rank < st.rank := by
  cases st <;> decide

theorem RxState.pastPayload_iff (st : RxState) : st.pastPayload = true ↔ RxState.readCrc.rank ≤ st.rank := by
  cases st <;> decide

theorem RxState.rank_lt_readVersion (st : RxState) :
    st.rank < RxState.readVersion.rank ↔ st = .idle ∨ st = .seekStart ∨ st = .readLength := by
  cases st <;> decide

theorem RxState.rank_lt_readEnd (st : RxState) : st.rank < RxState.readEnd.rank ↔ st.pastPayload = false ∨ st = .readCrc := by
  cases st <;> decide

theorem RxState.readCrc_rank_lt (st : RxState) : RxState.readCrc.rank < st.rank ↔ st = .readEnd ∨ st = .dispatch := by
  cases st <;> decide

theorem RxState.readEnd_rank_lt (st : RxState) : RxState.readEnd.rank < st.rank ↔ st = .dispatch := by
  cases st <;> decide

/-! ### A protocol fault, before and after its check -/

/-- The flag `f` of the check made in state `st`, which finds a fault when `wrong`: clear before the check, in the state itself set exactly while the `ack` is due, and set exactly when `wrong` after it. -/
structure Judged (f : Byte) (st : RxState) (wrong : Prop) (s : State) : Prop where
  before : s.rxState.rank < st.rank → s.hasFlag f = false
  due : s.rxState = st → (s.hasFlag f = true ↔ s.ackPend.isSome = true)
  cause : s.rxState = st → s.ackPend.isSome = true → wrong
  after : st.rank < s.rxState.rank → (s.hasFlag f = true ↔ wrong)

/-- What a move away from a state says of the check of state `st`: it is left behind, and has found a fault exactly if an `ack` was due; or it is another state's, and its two bytes stay. -/
def State.Leaves (s : State) (st : RxState) (wrong wrong' : Prop) : Prop :=
  (s.rxState = st ∧ (s.ackPend.isSome = true ↔ wrong')) ∨ (s.rxState ≠ st ∧ (wrong' ↔ wrong))

/-- What the fault flag `g` says of the check of state `st` with flag `f`: the check has found the fault; or it is another state's, with another flag. -/
def State.Finds (s : State) (g f : Byte) (st : RxState) (wrong wrong' : Prop) : Prop :=
  (s.rxState = st ∧ g &&& f ≠ 0 ∧ wrong') ∨ (s.rxState ≠ st ∧ g &&& f = 0 ∧ (wrong' ↔ wrong))

theorem State.leaves_other {s : State} {st st' : RxState} {wrong : Prop} (hs : s.rxState = st') (hne : st' ≠ st := by decide) :
    s.Leaves st wrong wrong :=
  .inr ⟨hs ▸ hne, .rfl⟩

theorem State.finds_other {s : State} {g f : Byte} {st st' : RxState} {wrong : Prop} (hs : s.rxState = st') (hne : st' ≠ st := by decide)
    (hgf : g &&& f = 0 := by decide) : s.Finds g f st wrong wrong :=
  .inr ⟨hs ▸ hne, hgf, .rfl⟩

namespace Judged

variable {f : Byte} {st : RxState} {wrong : Prop} {s t : State}

/-- The sequencer moves to the next state. -/
theorem next {wrong' : Prop} (h : Judged f st wrong s) (hr : t.rxState.rank = s.rxState.rank + 1) (hf : t.flags = s.flags)
    (ha : t.ackPend = none)
    (hw : s.Leaves st wrong wrong') : Judged f st wrong' t := by
  have hflag := State.hasFlag_congr hf f
  obtain ⟨rfl, hw⟩ | ⟨hne, hw⟩ := hw
  · refine ⟨fun hlt => by omega, fun he => ?_, by simp [ha], fun _ => ?_⟩
    · rw [he] at hr; omega
    · rw [hflag, h.due rfl, hw]
  · have hrank : s.rxState.rank ≠ st.rank := fun e => hne (RxState.rank_injective e)
    refine ⟨fun hlt => ?_, fun he => ?_, by simp [ha], fun hlt => ?_⟩
    · rw [hflag]
      exact h.before (by omega)
    · rw [hflag, h.before (by rw [← he]; omega), ha]
      simp
    · rw [hflag, hw]
      exact h.after (by omega)

/-- The sequencer stays, and so does the flag. -/
theorem stay (h : Judged f st wrong s) (hr : t.rxState = s.rxState) (hf : t.hasFlag f = s.hasFlag f)
    (ha : s.rxState = st → t.ackPend = s.ackPend) : Judged f st wrong t := by
  refine ⟨?_, fun he => ?_, fun he => ?_, ?_⟩
  · rw [hr, hf]; exact h.before
  · rw [hr] at he; rw [hf, ha he]; exact h.due he
  · rw [hr] at he; rw [ha he]; exact h.cause he
  · rw [hr, hf]; exact h.after

/-- A protocol fault is flagged, by this check or another, while the sequencer stays. -/
theorem fault {wrong' : Prop} {g : Byte} (h : Judged f st wrong s) (hr : t.rxState = s.rxState) (hf : t.flags = s.flags ||| g)
    (ha : t.ackPend.isSome = true)
    (hw : s.Finds g f st wrong wrong') : Judged f st wrong' t := by
  obtain ⟨he, hgf, hw⟩ | ⟨hne, hgf, hw⟩ := hw
  · rw [← hr] at he
    subst he
    have hset : t.hasFlag f = true := State.hasFlag_of_set hf hgf
    exact ⟨fun hlt => absurd hlt (lt_irrefl _), fun _ => by simp [hset, ha], fun _ _ => hw, fun hlt => absurd hlt (lt_irrefl _)⟩
  · have hs := h.stay (t := t) hr (State.hasFlag_of_other hf hgf) (absurd · hne)
    rwa [propext hw]

end Judged

/-! ### The invariant of a running operation -/

/-- No operation that runs has flagged a fault that would have ended it (R32, R233, R238). -/
structure RunningFlags (s : State) : Prop where
  resync : s.hasFlag fRESYNC = true ↔ s.discard ≠ 0
  length : s.hasFlag fLENGTH = false
  transport : s.hasFlag fTRANSPORT = false
  ackForm : s.hasFlag fACKFORM = false
  type : s.hasFlag fTYPE = true → s.typeUnknown

/-- What the invariant of `FLAGS` says of a running `DECODE`. -/
structure DecodeFlags (s : State) : Prop extends RunningFlags s where
  op : s.op = .decode
  status : s.status = sBUSY
  kind : s.resKind = .none
  started : s.rxState ≠ .idle
  lenPast : s.rxState.pastPayload = true → lenOk s.len = true
  version : Judged fVERSION .readVersion (s.ver ≠ VERSION) s
  crc : Judged fCRC .readCrc (s.rcrc ≠ s.expc) s
  ending : Judged fENDING .readEnd (s.endb ≠ END) s
  typeWhere : s.hasFlag fTYPE = true → s.rxState = .dispatch
  sent : s.txDone = true → s.rxState = .dispatch ∧ (s.hasFlag fTYPE = true ↔ s.typeUnknown)
  due : s.ackPend.isSome = true → s.rxState = .readVersion ∨ s.rxState = .readCrc ∨ s.rxState = .readEnd

theorem FlagsInv.busy {s : State} (h : FlagsInv s) (ho : s.op ≠ .none) : s.status = sBUSY := by
  by_contra hs
  exact ho (h.opBusy.mpr hs)

theorem FlagsInv.runningFlags {s : State} (h : FlagsInv s) (ho : s.op ≠ .none) : RunningFlags s := by
  have hk := h.busyKind (h.busy ho)
  exact
    { resync := h.resync
      length := by simpa [hk] using h.lengthKind
      transport := by simpa [hk] using h.transportKind
      ackForm := by simpa [hk, ResKind.isAck] using h.ackForm
      type := fun hf => (h.typeCause hf).1 }

theorem FlagsInv.decodeFlags {s : State} (h : FlagsInv s) (ho : s.op = .decode) : DecodeFlags s := by
  have hn : s.op ≠ .none := by simp [ho]
  have hk := h.busyKind (h.busy hn)
  have hi : s.rxState ≠ .idle := fun hi => h.rxIdle.mp hi ho
  have early : s.rxState.pastPayload = false → s.hasFlag fCRC = false ∧ s.hasFlag fENDING = false := by
    intro hp
    have := h.early ho hp
    simp only [← State.hasFlag_eq_false, State.hasFlag_or, Bool.or_eq_false_iff] at this
    tauto
  exact
    { h.runningFlags hn with
      op := ho, status := h.busy hn, kind := hk, started := hi, lenPast := h.lenPast
      version :=
        { before := fun hlt => h.notYetVersion (((RxState.rank_lt_readVersion _).mp hlt).resolve_left hi)
          due := h.dueVersion, cause := h.versionDue
          after := fun hlt => h.version ((RxState.pastVersion_iff _).mpr hlt) }
      crc :=
        { before := fun hlt => (early (by rwa [← Bool.not_eq_true, RxState.pastPayload_iff, not_le])).1
          due := h.dueCrc, cause := h.crcDue
          after := fun hlt => h.crc ((RxState.readCrc_rank_lt _).mp hlt) }
      ending :=
        { before := fun hlt => ((RxState.rank_lt_readEnd _).mp hlt).elim (fun hp => (early hp).2) h.notYetEnding
          due := h.dueEnding, cause := h.endingDue
          after := fun hlt => h.ending ((RxState.readEnd_rank_lt _).mp hlt) }
      typeWhere := fun hf => by
        obtain ⟨_, hk' | hk' | ⟨_, hs⟩⟩ := h.typeCause hf
        · simp [hk] at hk'
        · simp [hk] at hk'
        · exact hs
      sent := fun hd => ⟨h.sentWhere ho hd, h.typeSent ho hd⟩
      due := h.dueWhere }

theorem DecodeFlags.flagsInv {s : State} (h : DecodeFlags s) : FlagsInv s where
  resync := h.resync
  early := by
    intro _ hp
    have hlt : s.rxState.rank < RxState.readCrc.rank := by rwa [← not_le, ← RxState.pastPayload_iff, Bool.not_eq_true]
    have ht : s.hasFlag fTYPE = false := by
      by_contra hf
      simp [h.typeWhere (by simpa using hf), RxState.pastPayload] at hp
    simp only [← State.hasFlag_eq_false, State.hasFlag_or, Bool.or_eq_false_iff]
    exact ⟨⟨⟨⟨⟨h.crc.before hlt, h.ending.before (hlt.trans (by decide))⟩, ht⟩, h.length⟩, h.ackForm⟩, h.transport⟩
  running := by
    intro _
    simp only [← State.hasFlag_eq_false, State.hasFlag_or, Bool.or_eq_false_iff]
    exact ⟨⟨h.length, h.transport⟩, h.ackForm⟩
  notDecode := absurd h.op
  opBusy := by simp [h.op, h.status]
  busyKind := fun _ => h.kind
  rxIdle := by simp [h.op, h.started]
  lenPast := h.lenPast
  lengthKind := by rw [h.length, h.kind]; decide
  lengthAlone := fun hf => nomatch h.length.symm.trans hf
  transportKind := by rw [h.transport, h.kind]; decide
  sentWhere := fun _ hd => (h.sent hd).1
  typeCause := fun hf => ⟨h.type hf, .inr (.inr ⟨h.op, h.typeWhere hf⟩)⟩
  typeSent := fun _ hd => (h.sent hd).2
  typeKind := by simp [h.kind, ResKind.dispatched]
  typeResult := by simp [h.kind, ResKind.dispatched]
  tagResult := by simp [h.kind, ResKind.dispatched]
  ackForm := by rw [h.ackForm, h.kind]; simp [ResKind.isAck]
  ackKind := by simp [h.kind, ResKind.isAck]
  dueVersion := h.version.due
  dueCrc := h.crc.due
  dueEnding := h.ending.due
  dueWhere := h.due
  notYetVersion := fun hs => h.version.before ((RxState.rank_lt_readVersion _).mpr (.inr hs))
  notYetEnding := fun hs => h.ending.before (by rw [hs]; decide)
  versionDue := h.version.cause
  crcDue := h.crc.cause
  endingDue := h.ending.cause
  version := fun hp => h.version.after ((RxState.pastVersion_iff _).mp hp)
  crc := fun hs => h.crc.after ((RxState.readCrc_rank_lt _).mpr hs)
  ending := fun hs => h.ending.after ((RxState.readEnd_rank_lt _).mpr hs)

/-! ### The end of an operation -/

/-- The flags that go with a result of kind `k` (R224, R228). -/
structure ResultFlags (k : ResKind) (s : State) : Prop where
  resync : s.hasFlag fRESYNC = true ↔ s.discard ≠ 0
  length : s.hasFlag fLENGTH = true ↔ k = .badLength
  alone : s.hasFlag fLENGTH = true → s.flags &&& (fCRC ||| fENDING ||| fTYPE ||| fACKFORM ||| fTRANSPORT) = 0
  transport : s.hasFlag fTRANSPORT = true ↔ k = .transportErr
  type : s.hasFlag fTYPE = true → s.typeUnknown ∧ (k = .unknownType ∨ k = .transportErr)
  dispatched : k.dispatched = true → (s.typeUnknown ↔ k = .unknownType) ∧ (k = .unknownType ↔ s.hasFlag fTYPE = true) ∧ s.resTag = s.typ
  ackForm : s.hasFlag fACKFORM = true ↔ k.isAck ∧ plenOf s.len ≠ 1
  ackKind : k.isAck → s.typ = s.cfg.tagAck

theorem ResultFlags.flagsInv {k : ResKind} {s : State} (h : ResultFlags k s) : FlagsInv (s.finish k) where
  resync := h.resync
  early := nofun
  running := nofun
  notDecode := nofun
  opBusy := by simp
  busyKind := nofun
  rxIdle := by simp
  lenPast := nofun
  lengthKind := h.length
  lengthAlone := h.alone
  transportKind := h.transport
  sentWhere := nofun
  typeCause := fun hf => ⟨(h.type hf).1, (h.type hf).2.imp_right .inl⟩
  typeSent := nofun
  typeKind := fun hd => (h.dispatched hd).2.1.symm.trans (h.dispatched hd).1.symm
  typeResult := fun hd => (h.dispatched hd).2.1
  tagResult := fun hd => (h.dispatched hd).2.2
  ackForm := h.ackForm
  ackKind := h.ackKind
  dueVersion := nofun
  dueCrc := nofun
  dueEnding := nofun
  dueWhere := nofun
  notYetVersion := nofun
  notYetEnding := nofun
  versionDue := nofun
  crcDue := nofun
  endingDue := nofun
  version := nofun
  crc := nofun
  ending := nofun

/-- `TRANSPORT` is flagged beside the other flags (R238). -/
theorem RunningFlags.resultFlags_transportErr {s t : State} (h : RunningFlags s)
    (ht : t = { s with flags := s.flags ||| fTRANSPORT, pbuf := t.pbuf }) : ResultFlags .transportErr t := by
  have hf : t.flags = s.flags ||| fTRANSPORT := by rw [ht]
  have other {g : Byte} (hg : fTRANSPORT &&& g = 0) : t.hasFlag g = s.hasFlag g := State.hasFlag_of_other hf hg
  have hl : t.hasFlag fLENGTH = false := (other (by decide)).trans h.length
  refine
    { resync := ?_, length := ?_, alone := fun hf => (nomatch hl.symm.trans hf), transport := ?_, type := ?_, dispatched := nofun
      ackForm := ?_, ackKind := by simp [ResKind.isAck] }
  · rw [other (by decide), ht]; exact h.resync
  · rw [hl]; decide
  · exact iff_of_true (State.hasFlag_of_set hf (by decide)) rfl
  · intro hf
    rw [other (by decide)] at hf
    rw [ht]
    exact ⟨h.type hf, .inr rfl⟩
  · rw [other (by decide), h.ackForm]
    simp [ResKind.isAck]

theorem RunningFlags.transportFault {s : State} (h : RunningFlags s) : FlagsInv s.transportFault :=
  (h.resultFlags_transportErr (t := { s.setFlag fTRANSPORT with pbuf := s.pbuf.forget }) rfl).flagsInv

/-- A malformed length is met before any later check (R178, R228). -/
theorem RunningFlags.malformedLength {s : State} (h : RunningFlags s) (hc : s.hasFlag fCRC = false) (he : s.hasFlag fENDING = false)
    (ht : s.hasFlag fTYPE = false) : FlagsInv s.malformedLength := by
  have other {g : Byte} (hg : fLENGTH &&& g = 0) : (s.setFlag fLENGTH).hasFlag g = s.hasFlag g := State.hasFlag_of_other rfl hg
  refine ResultFlags.flagsInv (k := .badLength) (s := s.setFlag fLENGTH)
    { resync := ?_, length := ?_, alone := ?_, transport := ?_, type := ?_, dispatched := nofun, ackForm := ?_, ackKind := by simp [ResKind.isAck] }
  · rw [other (by decide)]; exact h.resync
  · exact iff_of_true (State.hasFlag_of_set (s := s) rfl (by decide)) rfl
  · simp only [← State.hasFlag_eq_false, State.hasFlag_or, Bool.or_eq_false_iff]
    intro _
    refine ⟨⟨⟨⟨?_, ?_⟩, ?_⟩, ?_⟩, ?_⟩ <;> rw [other (by decide)]
    exacts [hc, he, ht, h.ackForm, h.transport]
  · rw [other (by decide), h.transport]; decide
  · intro hf
    rw [other (by decide), ht] at hf
    cases hf
  · rw [other (by decide), h.ackForm]
    simp [ResKind.isAck]

/-- A result other than that of a received `ack`, with the flags as they stand. -/
theorem RunningFlags.finish {k : ResKind} {s : State} (h : RunningFlags s) (hb : k ≠ .badLength) (ht : k ≠ .transportErr)
    (ha : ¬ k.isAck) (htype : s.hasFlag fTYPE = true ↔ k = .unknownType)
    (hd : k.dispatched = true → (s.typeUnknown ↔ k = .unknownType) ∧ s.resTag = s.typ) : FlagsInv (s.finish k) :=
  ResultFlags.flagsInv
    { resync := h.resync
      length := by rw [h.length]; simpa using hb
      alone := fun hf => nomatch h.length.symm.trans hf
      transport := by rw [h.transport]; simpa using ht
      type := fun hf => ⟨h.type hf, .inl (htype.mp hf)⟩
      dispatched := fun hk => ⟨(hd hk).1, htype.symm, (hd hk).2⟩
      ackForm := by rw [h.ackForm]; simp [ha]
      ackKind := fun hk => absurd hk ha }

/-- The result of a received `ack`: `ACKFORM` tells that its payload is not one byte (R203, R204). -/
theorem RunningFlags.finish_ack {k : ResKind} {s u : State} (h : RunningFlags s) (hk : k.isAck) (hu : ¬ s.typeUnknown)
    (ht : s.typ = s.cfg.tagAck)
    (hform : (plenOf s.len = 1 ∧ u.flags = s.flags) ∨ (plenOf s.len ≠ 1 ∧ u.flags = s.flags ||| fACKFORM))
    (hw : u = { s with flags := u.flags, resTag := s.typ, resCode := u.resCode, resPlen := 0 }) : FlagsInv (u.finish k) := by
  have other {g : Byte} (hg : fACKFORM &&& g = 0) : u.hasFlag g = s.hasFlag g := by
    obtain ⟨_, e⟩ | ⟨_, e⟩ := hform
    · exact State.hasFlag_congr e g
    · exact State.hasFlag_of_other e hg
  have hform : u.hasFlag fACKFORM = true ↔ plenOf s.len ≠ 1 := by
    obtain ⟨hp, e⟩ | ⟨hp, e⟩ := hform
    · rw [State.hasFlag_congr e, h.ackForm]; simp [hp]
    · exact iff_of_true (State.hasFlag_of_set e (by decide)) hp
  have hl : u.hasFlag fLENGTH = false := (other (by decide)).trans h.length
  have hn : k ≠ .badLength ∧ k ≠ .transportErr ∧ k ≠ .unknownType := by obtain rfl | rfl := hk <;> decide
  obtain ⟨hb, htr, hun⟩ := hn
  have htype : u.hasFlag fTYPE = false := by
    rw [other (by decide)]
    exact Bool.eq_false_iff.mpr fun hf => hu (h.type hf)
  have hlen : u.len = s.len := by rw [hw]
  refine ResultFlags.flagsInv
    { resync := ?_, length := ?_, alone := fun hf => (nomatch hl.symm.trans hf), transport := ?_
      type := fun hf => (nomatch htype.symm.trans hf), dispatched := fun _ => ⟨?_, ?_, ?_⟩, ackForm := ?_, ackKind := ?_ }
  · rw [other (by decide), hw]; exact h.resync
  · rw [hl]; simpa using hb
  · rw [other (by decide), h.transport]; simpa using htr
  · rw [hw]; exact iff_of_false hu hun
  · rw [htype]; simpa using hun
  · rw [hw]
  · rw [hform, hlen]; simp [hk]
  · intro _; rw [hw]; exact ht

/-! ### The hand-over of a frame -/

theorem FlagsInv.handOver {s : State} (h : FlagsInv s) (ho : s.op ≠ .none)
    (hd : s.op = .decode → s.rxState = .dispatch ∧ (s.hasFlag fTYPE = true ↔ s.typeUnknown)) (tag : Byte) (p : List Byte) :
    FlagsInv (s.handOver tag p) := by
  obtain ⟨_, e⟩ | ⟨_, e⟩ | ⟨_, e⟩ := State.handOver_cases tag p s <;> rw [e]
  · exact { h with sentWhere := fun hop _ => (hd hop).1, typeSent := fun hop _ => (hd hop).2 }
  · exact RunningFlags.transportFault (s := { s with crcw := frameCrc tag p }) { h.runningFlags ho with }
  · exact { h with }

/-! ### The steps of a running `DECODE` -/

namespace DecodeFlags

variable {s : State}

theorem txDone_of_ne_dispatch (h : DecodeFlags s) (hs : s.rxState ≠ .dispatch) : s.txDone = false :=
  Bool.eq_false_iff.mpr fun hd => hs (h.sent hd).1

theorem hasFlag_type_of_ne_dispatch (h : DecodeFlags s) (hs : s.rxState ≠ .dispatch) : s.hasFlag fTYPE = false :=
  Bool.eq_false_iff.mpr fun hf => hs (h.typeWhere hf)

/-- Of a running `DECODE` no result asks for `ACKFORM`, whatever the length. -/
theorem ackForm_iff (h : DecodeFlags s) (len : Half) : s.hasFlag fACKFORM = true ↔ s.resKind.isAck ∧ plenOf len ≠ 1 := by
  rw [h.ackForm, h.kind]
  simp [ResKind.isAck]

/-- The sequencer stays or moves, and no flag is set but that of a protocol fault. -/
theorem move (h : DecodeFlags s) (hs : s.rxState ≠ .dispatch) {t : State}
    (ht : t = { s with flags := t.flags, rxState := t.rxState, ackPend := t.ackPend, cnt := t.cnt, len := t.len, ver := t.ver,
                       typ := t.typ, rcrc := t.rcrc, expc := t.expc, endb := t.endb, crcw := t.crcw, txh := t.txh })
    (hf : ∀ g ∈ [fRESYNC, fLENGTH, fTRANSPORT, fACKFORM, fTYPE], t.hasFlag g = s.hasFlag g) (hi : t.rxState ≠ .idle)
    (hl : t.rxState.pastPayload = true → lenOk t.len = true) (hv : Judged fVERSION .readVersion (t.ver ≠ VERSION) t)
    (hc : Judged fCRC .readCrc (t.rcrc ≠ t.expc) t) (he : Judged fENDING .readEnd (t.endb ≠ END) t)
    (hp : t.ackPend.isSome = true → t.rxState = .readVersion ∨ t.rxState = .readCrc ∨ t.rxState = .readEnd) : FlagsInv t := by
  have hty : t.hasFlag fTYPE = false := (hf _ (by decide)).trans (h.hasFlag_type_of_ne_dispatch hs)
  have hd := h.txDone_of_ne_dispatch hs
  exact DecodeFlags.flagsInv
    { resync := by rw [hf _ (by decide), ht]; exact h.resync
      length := (hf _ (by decide)).trans h.length
      transport := (hf _ (by decide)).trans h.transport
      ackForm := (hf _ (by decide)).trans h.ackForm
      type := fun hf => nomatch hty.symm.trans hf
      op := by rw [ht]; exact h.op
      status := by rw [ht]; exact h.status
      kind := by rw [ht]; exact h.kind
      started := hi, lenPast := hl, version := hv, crc := hc, ending := he
      typeWhere := fun hf => nomatch hty.symm.trans hf
      sent := by rw [ht]; exact fun hd' => nomatch hd.symm.trans hd'
      due := hp }

/-- The sequencer moves to the next state, with no `ack` due. -/
theorem advance (h : DecodeFlags s) (hs : s.rxState ≠ .dispatch) {t : State}
    (ht : t = { s with rxState := t.rxState, ackPend := none, cnt := t.cnt, len := t.len, ver := t.ver, typ := t.typ, rcrc := t.rcrc,
                       expc := t.expc, endb := t.endb, crcw := t.crcw, txh := t.txh })
    (hr : t.rxState.rank = s.rxState.rank + 1) (hl : t.rxState.pastPayload = true → lenOk t.len = true)
    (hv : s.Leaves .readVersion (s.ver ≠ VERSION) (t.ver ≠ VERSION)) (hc : s.Leaves .readCrc (s.rcrc ≠ s.expc) (t.rcrc ≠ t.expc))
    (he : s.Leaves .readEnd (s.endb ≠ END) (t.endb ≠ END)) : FlagsInv t := by
  have hf : t.flags = s.flags := by rw [ht]
  have ha : t.ackPend = none := by rw [ht]
  exact h.move hs (by rw [hf, ha]; exact ht) (fun g _ => State.hasFlag_congr hf g) (fun hi => by rw [hi] at hr; exact nomatch hr) hl
    (h.version.next hr hf ha hv) (h.crc.next hr hf ha hc) (h.ending.next hr hf ha he) (by simp [ha])

/-- A protocol fault is flagged and its `ack` becomes due; `u` is the state with the byte stored (R230). -/
theorem protocolFault (h : DecodeFlags s) {f c : Byte} {u : State}
    (hu : u = { s with ver := u.ver, rcrc := u.rcrc, expc := u.expc, endb := u.endb, crcw := u.crcw })
    (hf : flagApart f [fRESYNC, fLENGTH, fTRANSPORT, fACKFORM, fTYPE] = true)
    (hs : s.rxState = .readVersion ∨ s.rxState = .readCrc ∨ s.rxState = .readEnd)
    (hv : s.Finds f fVERSION .readVersion (s.ver ≠ VERSION) (u.ver ≠ VERSION))
    (hc : s.Finds f fCRC .readCrc (s.rcrc ≠ s.expc) (u.rcrc ≠ u.expc))
    (he : s.Finds f fENDING .readEnd (s.endb ≠ END) (u.endb ≠ END)) : FlagsInv (u.protocolFault f c) := by
  have hflags : (u.protocolFault f c).flags = s.flags ||| f := by rw [hu]; rfl
  have hr : (u.protocolFault f c).rxState = s.rxState := by rw [hu]; rfl
  have hl : (u.protocolFault f c).rxState.pastPayload = true → lenOk (u.protocolFault f c).len = true := by
    rw [hu]; exact h.lenPast
  exact h.move (by rintro hd; simp [hd] at hs) (by rw [hu]; rfl) (fun g hg => State.hasFlag_of_other hflags (and_eq_zero_of_flagApart hf hg))
    (hr ▸ h.started) hl (h.version.fault hr hflags rfl hv) (h.crc.fault hr hflags rfl hc) (h.ending.fault hr hflags rfl he)
    (fun _ => hr ▸ hs)

/-- A flag that is no protocol fault's is set while the sequencer stays. -/
theorem setFlag (h : DecodeFlags s) {f : Byte} {t : State} (ht : t = { s with flags := s.flags ||| f, discard := t.discard, resTag := t.resTag })
    (hf : flagApart f [fVERSION, fCRC, fENDING, fLENGTH, fTRANSPORT, fACKFORM] = true)
    (hres : t.hasFlag fRESYNC = true ↔ t.discard ≠ 0) (htype : t.hasFlag fTYPE = true → t.typeUnknown ∧ t.rxState = .dispatch)
    (hsent : t.txDone = true → t.rxState = .dispatch ∧ (t.hasFlag fTYPE = true ↔ t.typeUnknown)) : DecodeFlags t := by
  have other {g : Byte} (hg : g ∈ [fVERSION, fCRC, fENDING, fLENGTH, fTRANSPORT, fACKFORM]) : t.hasFlag g = s.hasFlag g :=
    State.hasFlag_of_other (by rw [ht]) (and_eq_zero_of_flagApart hf hg)
  have hr : t.rxState = s.rxState := by rw [ht]
  have ha : t.ackPend = s.ackPend := by rw [ht]
  exact
    { resync := hres
      length := (other (by decide)).trans h.length
      transport := (other (by decide)).trans h.transport
      ackForm := (other (by decide)).trans h.ackForm
      type := fun hf => (htype hf).1
      op := by rw [ht]; exact h.op
      status := by rw [ht]; exact h.status
      kind := by rw [ht]; exact h.kind
      started := hr ▸ h.started
      lenPast := by rw [ht]; exact h.lenPast
      version := by rw [show t.ver = s.ver by rw [ht]]; exact h.version.stay hr (other (by decide)) fun _ => ha
      crc := by rw [show t.rcrc = s.rcrc by rw [ht], show t.expc = s.expc by rw [ht]]; exact h.crc.stay hr (other (by decide)) fun _ => ha
      ending := by rw [show t.endb = s.endb by rw [ht]]; exact h.ending.stay hr (other (by decide)) fun _ => ha
      typeWhere := fun hf => (htype hf).2
      sent := hsent
      due := by rw [hr, ha]; exact h.due }

theorem byteMove {b : Byte} {t : State} (h : DecodeFlags s) (ha : s.ackPend = none) (hm : ByteMove b s t) : FlagsInv t := by
  have hs' := hm.ne_dispatch
  have hI := h.flagsInv
  cases hm with
  | start hs =>
    exact h.advance hs' (by rw [← ha]) (by rw [hs]; rfl) nofun (State.leaves_other hs) (State.leaves_other hs)
      (State.leaves_other hs)
  | drop hs =>
    have hty := h.hasFlag_type_of_ne_dispatch hs'
    refine (h.setFlag (f := fRESYNC) rfl (by decide) ?_ ?_ ?_).flagsInv
    · exact iff_of_true (State.hasFlag_of_set (s := s) rfl (by decide)) (Nat.succ_ne_zero _)
    · rw [State.hasFlag_of_other (s := s) (f := fRESYNC) rfl (by decide), hty]
      nofun
    · exact fun hd => nomatch (h.txDone_of_ne_dispatch hs').symm.trans hd
  | lengthHigh hs => exact { hI with lenPast := by simp [hs, RxState.pastPayload], ackForm := h.ackForm_iff _ }
  | lengthLow hs =>
    exact h.advance hs' (by rw [← ha]) (by rw [hs]; rfl) nofun (State.leaves_other hs) (State.leaves_other hs)
      (State.leaves_other hs)
  | version hs hb =>
    exact h.advance hs' (by rw [← ha]) (by rw [hs]; rfl) nofun (.inl ⟨hs, by simp [ha, hb]⟩) (State.leaves_other hs)
      (State.leaves_other hs)
  | versionFault hs hb =>
    exact h.protocolFault (u := { s with ver := b }) rfl (by decide) (.inl hs) (.inl ⟨hs, by decide, hb⟩) (State.finds_other hs)
      (State.finds_other hs)
  | type hs =>
    exact h.advance hs' (by rw [← ha]) (by rw [hs]; rfl) nofun (State.leaves_other hs) (State.leaves_other hs)
      (State.leaves_other hs)
  | payload => exact { hI with }
  | crc hs hb =>
    exact h.advance hs' (by rw [← ha]) (by rw [hs]; rfl) (fun _ => h.lenPast (by rw [hs]; rfl)) (State.leaves_other hs)
      (.inl ⟨hs, by simp [ha, hb]⟩) (State.leaves_other hs)
  | crcFault hs hb =>
    generalize s.expectedCrc = e at hb ⊢
    exact h.protocolFault (u := { s with rcrc := b, expc := e, crcw := e }) rfl (by decide) (.inr (.inl hs))
      (State.finds_other hs) (.inl ⟨hs, by decide, hb⟩) (State.finds_other hs)
  | ending hs hb =>
    exact h.advance hs' (by rw [← ha]) (by rw [hs]; rfl) (fun _ => h.lenPast (by rw [hs]; rfl)) (State.leaves_other hs)
      (State.leaves_other hs) (.inl ⟨hs, by simp [ha, hb]⟩)
  | endingFault hs hb =>
    exact h.protocolFault (u := { s with endb := b }) rfl (by decide) (.inr (.inr hs)) (State.finds_other hs)
      (State.finds_other hs) (.inl ⟨hs, by decide, hb⟩)

/-- The `ack` of a protocol fault has been handed over, and the sequencer moves on (R79). -/
theorem ackSent {c : Byte} (h : DecodeFlags s) (hc : s.ackPend = some c) (w : Byte) (f : List (List Byte)) :
    FlagsInv { s with crcw := w, txh := f, ackPend := none, rxState := s.rxState.afterAck } := by
  have hdue : s.ackPend.isSome = true := by rw [hc]; rfl
  obtain hs | hs | hs := h.due hdue
  · exact h.advance (by simp [hs]) rfl (by rw [hs]; rfl) (by rw [hs]; nofun) (.inl ⟨hs, iff_of_true hdue (h.version.cause hs hdue)⟩)
      (State.leaves_other hs) (State.leaves_other hs)
  · exact h.advance (by simp [hs]) rfl (by rw [hs]; rfl) (fun _ => h.lenPast (by rw [hs]; rfl)) (State.leaves_other hs)
      (.inl ⟨hs, iff_of_true hdue (h.crc.cause hs hdue)⟩) (State.leaves_other hs)
  · exact h.advance (by simp [hs]) rfl (by rw [hs]; rfl) (fun _ => h.lenPast (by rw [hs]; rfl)) (State.leaves_other hs)
      (State.leaves_other hs) (.inl ⟨hs, iff_of_true hdue (h.ending.cause hs hdue)⟩)

/-- Dispatch writes `RES_TAG` first (R200). -/
theorem writeResTag (h : DecodeFlags s) (v : Byte) : FlagsInv { s with resTag := v } :=
  { h.flagsInv with tagResult := by simp [h.kind, ResKind.dispatched] }

theorem dispatchMove {t : State} (h : DecodeFlags s) (hs : s.rxState = .dispatch) (hm : DispatchMove s t) : FlagsInv t := by
  have hn : s.op ≠ .none := by simp [h.op]
  have hr : RunningFlags s := h.toRunningFlags
  have known (hu : ¬ s.typeUnknown) : ¬ s.hasFlag fTYPE = true := fun hf => hu (h.type hf)
  cases hm with
  | data ht =>
    have hu : ¬ s.typeUnknown := fun hu => hu.1 (by simp [ht])
    exact RunningFlags.finish (s := { s with resTag := s.typ, resPlen := plenOf s.len }) { hr with } nofun nofun
      (by simp [ResKind.isAck]) (iff_of_false (known hu) nofun) fun _ => ⟨iff_of_false hu nofun, rfl⟩
  | ack k c hk hu ht hp => exact hr.finish_ack hk hu ht (.inl ⟨hp, rfl⟩) rfl
  | ackForm k c hk hu ht hp => exact hr.finish_ack hk hu ht (.inr ⟨hp, rfl⟩) rfl
  | known k hk hu =>
    obtain ⟨hb, ht, ha, hun⟩ : k ≠ .badLength ∧ k ≠ .transportErr ∧ ¬ k.isAck ∧ k ≠ .unknownType := by revert hk; revert k; decide
    exact RunningFlags.finish (s := { s with resTag := s.typ, resPlen := 0 }) { hr with } hb ht ha
      (iff_of_false (known hu) hun) fun _ => ⟨iff_of_false hu hun, rfl⟩
  | reply tag p hu =>
    exact FlagsInv.handOver (s := { s with resTag := s.typ }) (h.writeResTag _) hn
      (fun _ => ⟨hs, iff_of_false (known hu) hu⟩) tag p
  | unknown hu hd =>
    obtain ⟨_, hty⟩ := h.sent hd
    exact RunningFlags.finish (s := { s with resTag := s.typ, resPlen := 0 }) { hr with } nofun nofun
      (by simp [ResKind.isAck]) (iff_of_true (hty.mpr hu) rfl) fun _ => ⟨iff_of_true hu rfl, rfl⟩
  | unknownAck hu =>
    have hset : State.hasFlag fTYPE { s.setFlag fTYPE with resTag := s.typ } = true := State.hasFlag_of_set (s := s) rfl (by decide)
    have h' : DecodeFlags { s.setFlag fTYPE with resTag := s.typ } := h.setFlag (f := fTYPE) rfl (by decide)
      (by rw [State.hasFlag_of_other (s := s) (f := fTYPE) rfl (by decide)]; exact h.resync)
      (fun _ => ⟨hu, hs⟩) (fun _ => ⟨hs, iff_of_true hset hu⟩)
    exact h'.flagsInv.handOver hn (fun _ => ⟨hs, iff_of_true hset hu⟩) _ _
  | malformed hl => exact absurd (h.lenPast (by rw [hs]; rfl)) (by simp [hl])

theorem decodeMove {t : State} (h : DecodeFlags s) (hm : DecodeMove s t) : FlagsInv t := by
  have hr : RunningFlags s := h.toRunningFlags
  cases hm with
  | wait => exact h.flagsInv
  | transport q d c => exact RunningFlags.transportFault (s := { s with rxq := q, draws := d, crcw := c }) { hr with }
  | ackHeld => exact { h.flagsInv with }
  | ackSent c hc => exact h.ackSent hc _ _
  | begin _ hs => exact absurd hs h.started
  | byte b q d _ ha _ hm =>
    exact byteMove (s := { s with rxq := q, draws := d }) (FlagsInv.decodeFlags { h.flagsInv with } h.op) ha hm
  | payloadEnd ha hs hl =>
    exact h.advance (by simp [hs]) (by rw [← ha]) (by rw [hs]; rfl) (fun _ => hl) (State.leaves_other hs) (State.leaves_other hs)
      (State.leaves_other hs)
  | malformed _ hs =>
    exact hr.malformedLength (h.crc.before (by rw [hs]; decide)) (h.ending.before (by rw [hs]; decide))
      (h.hasFlag_type_of_ne_dispatch (by simp [hs]))
  | dispatch _ _ hs hd => exact h.dispatchMove hs (dispatchMove_of_dispatch hd)

end DecodeFlags

/-! ### The other commands, and the other agents -/

namespace FlagsInv

variable {s : State}

theorem commandMove {t : State} (h : FlagsInv s) (ho : s.op ≠ .none) (hd : s.op ≠ .decode) (hm : CommandMove s t) : FlagsInv t := by
  cases hm with
  | result k c r hk =>
    obtain ⟨hb, ht, ha, hun, hdis⟩ :
        k ≠ .badLength ∧ k ≠ .transportErr ∧ ¬ k.isAck ∧ k ≠ .unknownType ∧ ¬ k.dispatched = true := by revert hk; revert k; decide
    have hty : ¬ s.hasFlag fTYPE = true := by
      rw [State.hasFlag, h.notDecode hd (h.busy ho)]
      decide
    exact RunningFlags.finish (s := { s with crcw := c, resCrc := r }) { h.runningFlags ho with } hb ht ha
      (iff_of_false hty hun) (absurd · hdis)
  | handOver tag p => exact h.handOver ho (absurd · hd) tag p

theorem sameInside {t : State} (h : FlagsInv s) (ht : State.SameInside s t) : FlagsInv t := by
  rw [ht]
  exact { h with }

/-- With no flag set, no result and no `ack` due the invariant is that of the sequencer. -/
theorem of_clear (hf : s.flags = 0) (hk : s.resKind = .none) (hd : s.discard = 0) (ha : s.ackPend = none) (ht : s.txDone = false)
    (hb : s.op = .none ↔ s.status ≠ sBUSY) (hi : s.rxState = .idle ↔ s.op ≠ .decode)
    (hs : s.rxState = .seekStart ∨ s.rxState = .idle) : FlagsInv s := by
  have hn (f : Byte) : s.hasFlag f = false := State.hasFlag_eq_false.mpr (by rw [hf]; exact BitVec.zero_and)
  have hm (m : Byte) : s.flags &&& m = 0 := State.hasFlag_eq_false.mp (hn m)
  have off {f : Byte} {p : Prop} (h : s.hasFlag f = true) : p := nomatch (hn f).symm.trans h
  exact
    { resync := by rw [hn, hd]; simp
      early := fun _ _ => hm _
      running := fun _ => hm _
      notDecode := fun _ _ => hf
      opBusy := hb, busyKind := fun _ => hk, rxIdle := hi
      lenPast := by obtain e | e := hs <;> rw [e] <;> nofun
      lengthKind := by rw [hn, hk]; simp
      lengthAlone := off
      transportKind := by rw [hn, hk]; simp
      sentWhere := fun _ h => nomatch ht.symm.trans h
      typeCause := off
      typeSent := fun _ h => nomatch ht.symm.trans h
      typeKind := by rw [hk]; nofun
      typeResult := by rw [hk]; nofun
      tagResult := by rw [hk]; nofun
      ackForm := by rw [hn, hk]; simp [ResKind.isAck]
      ackKind := by rw [hk]; simp [ResKind.isAck]
      dueVersion := by rw [hn, ha]; simp
      dueCrc := by rw [hn, ha]; simp
      dueEnding := by rw [hn, ha]; simp
      dueWhere := by rw [ha]; nofun
      notYetVersion := fun _ => hn _
      notYetEnding := fun _ => hn _
      versionDue := by rw [ha]; nofun
      crcDue := by rw [ha]; nofun
      endingDue := by rw [ha]; nofun
      version := by obtain e | e := hs <;> rw [e] <;> nofun
      crc := by obtain e | e := hs <;> rw [e] <;> simp
      ending := by obtain e | e := hs <;> rw [e] <;> nofun }

theorem accept (s : State) (c : BitVec 3) : FlagsInv (s.accept c) :=
  of_clear rfl rfl rfl rfl rfl (iff_of_false (opOfInstr_decodeCmd_ne_none c) (fun h => h rfl)) (s.accept_rxIdle c) (s.accept_rxState c)

theorem resetRegs (s : State) : FlagsInv s.resetRegs :=
  of_clear rfl rfl rfl rfl rfl (iff_of_true rfl nofun) (iff_of_true rfl nofun) (.inr rfl)

end FlagsInv

/-- Settles O49: a running `DECODE` keeps the invariant in the form `DecodeFlags`, each result has the flags of its kind, and an acceptance or a reset clears all. -/
theorem everyStepKeepsTheFlagsInvariant : Obligations.EveryStepKeepsTheFlagsInvariant := fun _ _ hs h =>
  step_keeps (fun _ _ ht h => h.sameInside ht) (fun _ _ _ _ h => { h with }) (fun s c _ _ => FlagsInv.accept s c)
    (fun s _ => FlagsInv.resetRegs s) (fun _ _ ho hm h => (h.decodeFlags ho).decodeMove hm)
    (fun _ _ ho hd hm h => h.commandMove ho hd hm) hs h

end Sys2Proof.Machine

/-! What the operations do to the flags and the sequencer (10_state.md R24, R32), and the turns of the other agents (R20, R33 to R38). -/

namespace Sys2Proof.Machine

/-! ### No operation clears a flag (R32) -/

/-- The flags of `t` contain those of `s`. -/
def State.FlagsGrow (s t : State) : Prop := t.flags ||| s.flags = t.flags

namespace State.FlagsGrow

variable {s t u : State}

theorem of_eq (h : t.flags = s.flags) : s.FlagsGrow t := by
  rw [State.FlagsGrow, h, BitVec.or_self]

theorem of_or {f : Byte} (h : t.flags = s.flags ||| f) : s.FlagsGrow t := by
  rw [State.FlagsGrow, h, BitVec.or_assoc, BitVec.or_comm f, ← BitVec.or_assoc, BitVec.or_self]

theorem trans (h : s.FlagsGrow t) (h' : t.FlagsGrow u) : s.FlagsGrow u := by
  rw [State.FlagsGrow] at *
  rw [← h', BitVec.or_assoc, h]

theorem handOver (tag : Byte) (p : List Byte) (s : State) : s.FlagsGrow (s.handOver tag p) := by
  obtain ⟨_, e⟩ | ⟨_, e⟩ | ⟨_, e⟩ := State.handOver_cases tag p s <;> rw [e]
  · exact of_eq rfl
  · exact of_or (f := fTRANSPORT) rfl
  · exact of_eq rfl

theorem emitAndFinish (tag : Byte) (p : List Byte) (s : State) : s.FlagsGrow (s.emitAndFinish tag p) := by
  unfold State.emitAndFinish
  split
  · exact of_eq rfl
  · exact handOver tag p s

theorem emitOperand (tag : Byte) (s : State) : s.FlagsGrow (s.emitOperand tag) := by
  unfold State.emitOperand
  split
  · exact emitAndFinish tag _ s
  · exact of_eq rfl

theorem replyThenFinish (tag : Byte) (p : List Byte) (k : ResKind) (s : State) : s.FlagsGrow (s.replyThenFinish tag p k) := by
  unfold State.replyThenFinish
  split
  · exact of_eq rfl
  · exact handOver tag p s

theorem unknownType (s : State) : s.FlagsGrow s.unknownType := by
  unfold State.unknownType
  split
  · exact of_eq rfl
  · exact trans (of_or (f := fTYPE) rfl) (handOver _ _ _)

/-- A dispatch operation is `k` after `RES_TAG` is written, or ends at a malformed length. -/
theorem enterDispatch {len : Half} {typ : Byte} {k : State → Host.Outcome State Fault Refusal}
    (hk : ∀ u, k { s with resTag := typ } = .next u → State.FlagsGrow { s with resTag := typ } u)
    (h : s.enterDispatch len typ k = .next t) : s.FlagsGrow t := by
  obtain ⟨_, e⟩ | ⟨_, e⟩ := State.enterDispatch_cases len typ s k <;> rw [e] at h
  · exact hk t h
  · cases h
    exact of_or (f := fLENGTH) rfl

theorem rxAck {len : Half} {ver : Byte} (h : execRxAck len ver s = .next t) : s.FlagsGrow t := by
  refine enterDispatch (fun u h => ?_) h
  simp only [runAckCode_eq] at h
  split at h
  · cases h; exact of_eq rfl
  · split at h <;> cases h <;> exact of_or (f := fACKFORM) rfl

end State.FlagsGrow

open State.FlagsGrow in
/-- Every operation but `DECODE`, whose dispatch runs another one. -/
theorem flagsGrow_of_exec {i : Instr} {s t : State} (hi : i ≠ .decode) (h : exec i s = .next t) : s.FlagsGrow t := by
  cases i with
  | decode => exact absurd rfl hi
  | encData | encEcho => cases h; exact emitOperand _ s
  | encAck | encOpen | encClose => cases h; exact emitAndFinish _ _ s
  | rxData =>
    rw [exec] at h
    exact enterDispatch (fun u h => by cases h; exact of_eq rfl) h
  | rxAck len ver => exact rxAck (ver := ver) h
  | rxOpen | rxClose | rxEcho =>
    rw [exec] at h
    exact enterDispatch (fun u h => by cases h; exact replyThenFinish _ _ _ _) h
  | rxTest =>
    rw [exec] at h
    refine enterDispatch (fun u h => ?_) h
    split at h <;> cases h
    · exact of_eq rfl
    · exact unknownType _
  | rxUnknown =>
    rw [exec] at h
    exact enterDispatch (fun u h => by cases h; exact unknownType _) h
  | crc8 | cmdReserved | ackNoError | ackCrc | ackVersion | ackEnding | ackType | ackOpened | ackClosed | ackUnknown =>
    cases h; exact of_eq rfl

theorem frameInstr_ne_decode (c : Config) (len : Half) (ver typ : Byte) : frameInstr c len ver typ ≠ .decode := by
  unfold frameInstr
  repeat' split
  all_goals nofun

theorem ByteMove.flagsGrow {b : Byte} {s t : State} (h : ByteMove b s t) : s.FlagsGrow t := by
  cases h with
  | drop => exact .of_or (f := fRESYNC) rfl
  | versionFault => exact .of_or (f := fVERSION) rfl
  | crcFault => exact .of_or (f := fCRC) rfl
  | endingFault => exact .of_or (f := fENDING) rfl
  | _ => exact .of_eq rfl

theorem DecodeMove.flagsGrow {s t : State} (h : DecodeMove s t) : s.FlagsGrow t := by
  cases h with
  | transport => exact .of_or (f := fTRANSPORT) rfl
  | byte b q d _ _ _ hm => exact hm.flagsGrow
  | malformed => exact .of_or (f := fLENGTH) rfl
  | dispatch _ _ _ hd => exact flagsGrow_of_exec (frameInstr_ne_decode _ _ _ _) ((exec_frameInstr s).trans hd)
  | _ => exact .of_eq rfl

/-- Settles O51: every arm of `exec` keeps the flags or sets one more. -/
theorem operationsNeverClearAFlag : Obligations.OperationsNeverClearAFlag := by
  intro i s t h
  by_cases hi : i = .decode
  · subst hi
    exact (decodeMove_of_exec h).flagsGrow
  · exact flagsGrow_of_exec hi h

/-! ### The sequencer only moves forward (R24) -/

/-- The sequencer stays, moves to the next state, or has ended its `DECODE`. -/
def State.Forward (s t : State) : Prop :=
  t.rxState = s.rxState ∨ t.rxState.rank = s.rxState.rank + 1 ∨ (t.rxState = .idle ∧ t.op = .none ∧ t.status = sDONE)

theorem State.Forward.handOver (tag : Byte) (p : List Byte) (s : State) : s.Forward (s.handOver tag p) := by
  obtain ⟨_, e⟩ | ⟨_, e⟩ | ⟨_, e⟩ := State.handOver_cases tag p s <;> rw [e]
  · exact .inl rfl
  · exact .inr (.inr ⟨rfl, rfl, rfl⟩)
  · exact .inl rfl

theorem RxState.afterAck_eq_or_rank (st : RxState) : st.afterAck = st ∨ st.afterAck.rank = st.rank + 1 := by
  cases st <;> decide

theorem ByteMove.forward {b : Byte} {s t : State} (h : ByteMove b s t) : s.Forward t := by
  cases h with
  | start hs | lengthLow hs | version hs | type hs | crc hs | ending hs => exact .inr (.inl (by rw [hs]; rfl))
  | _ => exact .inl rfl

theorem DispatchMove.forward {s t : State} (h : DispatchMove s t) : s.Forward t := by
  cases h with
  | reply tag p => exact .handOver tag p { s with resTag := s.typ }
  | unknownAck => exact .handOver _ _ { s.setFlag fTYPE with resTag := s.typ }
  | _ => exact .inr (.inr ⟨rfl, rfl, rfl⟩)

theorem DecodeMove.forward {s t : State} (h : DecodeMove s t) : s.Forward t := by
  cases h with
  | wait | ackHeld => exact .inl rfl
  | ackSent => exact s.rxState.afterAck_eq_or_rank.imp_right .inl
  | begin _ hs | payloadEnd _ hs => exact .inr (.inl (by rw [hs]; rfl))
  | byte b q d _ _ _ hm => exact hm.forward
  | transport | malformed => exact .inr (.inr ⟨rfl, rfl, rfl⟩)
  | dispatch _ _ _ hd => exact (dispatchMove_of_dispatch hd).forward

/-- What keeps `SEEK_START`: an empty `rxq`, or a byte dropped and counted (R172). -/
theorem DecodeMove.seekStart_stays {s t : State} (h : DecodeMove s t) (hs : s.rxState = .seekStart) (ha : s.ackPend = none)
    (ht : t.rxState = .seekStart) :
    (s.rxq = [] ∧ t = s) ∨ (∃ b, s.rxq = b :: t.rxq ∧ b ≠ START ∧ t.discard = s.discard + 1) := by
  cases h with
  | wait hq => exact .inl ⟨hq, rfl⟩
  | transport => cases ht
  | ackHeld c hc | ackSent c hc => cases ha.symm.trans hc
  | begin _ hs' | payloadEnd _ hs' | malformed _ hs' | dispatch _ _ hs' => cases hs.symm.trans hs'
  | byte b q d _ _ hq hm =>
    cases hm with
    | start => cases ht
    | drop _ hb => exact .inr ⟨b, hq, hb, rfl⟩
    | lengthHigh hs' | lengthLow hs' | version hs' | versionFault hs' | type hs' | payload hs' | crc hs' | crcFault hs'
    | ending hs' | endingFault hs' => cases hs.symm.trans hs'

/-- Settles O52, by the moves of `DECODE`. -/
theorem sequencerOnlyMovesForward : Obligations.SequencerOnlyMovesForward := fun _ _ h =>
  have hm := decodeMove_of_exec h
  ⟨hm.forward, fun hs ha ht => hm.seekStart_stays hs ha ht⟩

/-! ### The buffers, byte for byte -/

theorem Memory.getElem?_readRange (free : Nat → Nat → Byte) (m : Memory) (a n i : Nat) (hi : i < n) :
    (m.readRange free a n)[i]? = some (m.read free (a + i)) := by
  induction n generalizing a i with
  | zero => exact absurd hi (Nat.not_lt_zero i)
  | succ n ih =>
    cases i with
    | zero => rfl
    | succ i => rw [Memory.readRange, List.getElem?_cons_succ, ih _ _ (by omega), Nat.add_right_comm, Nat.add_assoc]

/-- Settles O13: both are ranges from index 0. -/
theorem operandIsTbufPrefix : Obligations.OperandIsTbufPrefix := by
  intro s len
  refine ⟨Memory.length_readRange _ _ _ _, fun i hi => ?_, Memory.length_readRange _ _ _ _, fun i hi => ?_⟩
  · rw [State.operand, State.tbufRange, Memory.getElem?_readRange _ _ _ _ _ hi, Nat.zero_add, State.tbufByte]
  · rw [State.payload, State.pbufRange, Memory.getElem?_readRange _ _ _ _ _ hi, Nat.zero_add, State.pbufByte]

/-! ### The host's writes -/

theorem State.writable_iff (s : State) : s.writable = true ↔ s.busy = false ∧ s.rst = false := by
  simp [State.writable]

/-- Settles O42: a writable block takes the write, and a `TBUF` write is read back. -/
theorem operandWritesReadBack : Obligations.OperandWritesReadBack := by
  intro s hb hr
  have hw : s.writable = true := s.writable_iff.mpr ⟨hb, hr⟩
  refine ⟨fun v => by rw [hostTurn, if_pos hw], fun v => by rw [hostTurn, if_pos hw], fun i v hi => ?_, fun i v hi => ?_⟩
  · refine ⟨{ s with tbuf := s.tbuf.write i v }, by rw [hostTurn, if_pos hi, if_pos hw], ?_, fun a ha => ?_, rfl⟩
    · rw [State.tbufByte, Memory.read_write, if_pos rfl]
    · rw [State.tbufByte, Memory.read_write, if_neg ha, State.tbufByte]
  · exact if_neg (not_lt.mpr hi)

/-- Settles O41: the block is not writable. -/
theorem hostWritesAreIgnoredWhileBusy : Obligations.HostWritesAreIgnoredWhileBusy := by
  intro s a hs ha
  have hw : ¬ s.writable = true := fun hw => by
    obtain ⟨hb, hr⟩ := s.writable_iff.mp hw
    simp [hb, hr] at hs
  obtain ⟨c, rfl⟩ | ⟨v, rfl⟩ | ⟨v, rfl⟩ | ⟨i, v, rfl, hi⟩ := ha
  · rw [hostTurn, if_neg hw]
  · rw [hostTurn, if_neg hw]
  · rw [hostTurn, if_neg hw]
  · rw [hostTurn, if_pos hi, if_neg hw]

/-- The values of `CMD` are the eight commands (R110, R111). -/
theorem decodeCmd_mem (c : BitVec 3) : decodeCmd c ∈ [Instr.crc8, .encData, .encAck, .encOpen, .encClose, .encEcho, .decode, .cmdReserved] := by
  revert c
  decide

theorem opOfInstr_decodeCmd_eq_decode (c : BitVec 3) : opOfInstr (decodeCmd c) = .decode ↔ c = 6 := by
  revert c
  decide

/-- An accepted command is what CODEC runs next (R23, R34). -/
theorem State.fetch_accept {s : State} (hr : s.rst = false) (c : BitVec 3) : (s.accept c).fetch = some (decodeCmd c) := by
  have hm := decodeCmd_mem c
  simp only [List.mem_cons, List.not_mem_nil, or_false] at hm
  obtain h | h | h | h | h | h | h | h := hm <;> simp [State.fetch, State.accept, hr, h, opOfInstr]

/-- Settles O40: the write is the acceptance. -/
theorem commandWriteIsAccepted : Obligations.CommandWriteIsAccepted := by
  intro s c hb hr
  refine ⟨s.accept c, by rw [hostTurn, if_pos (s.writable_iff.mpr ⟨hb, hr⟩)], State.fetch_accept hr c, ?_⟩
  simp only [State.accept, opOfInstr_decodeCmd_eq_decode]

/-! ### The host's reads (R38) -/

/-- A register that exists, is readable and is settled reads as its value. -/
theorem hostRead_settled {s : State} {r : HostReg} {v : BitVec 32} (hi : r.inRange = true) (hv : s.regValue r = some v)
    (hs : r.isResult = false ∨ s.busy = false) : hostRead r s = .next { s with hostRd := some v } := by
  have hc : (r.isResult && s.busy) = false := by obtain h | h := hs <;> simp [h]
  simp [hostRead, hi, hv, hc]

/-- A result register reads as a free value of its width while an operation runs (U7; log 15). -/
theorem hostRead_busy {s : State} {r : HostReg} {v : BitVec 32} (hi : r.inRange = true) (hv : s.regValue r = some v)
    (hr : r.isResult = true) (hb : s.busy = true) :
    ∃ x, hostRead r s = .next { s with hostRd := some x, draws := s.draws + 1 } ∧ x.toNat < 2 ^ r.width := by
  refine ⟨BitVec.ofNat 32 ((Config.freeRead s.draws).toNat % 2 ^ r.width), by simp [hostRead, hi, hv, hr, hb], ?_⟩
  rw [BitVec.toNat_ofNat]
  exact (Nat.mod_le _ _).trans_lt (Nat.mod_lt _ (Nat.two_pow_pos _))

theorem hostRead_outOfRange {s : State} {r : HostReg} (hi : r.inRange = false) : hostRead r s = .fault .noSuchIndex := by
  simp [hostRead, hi]

/-- The value of a register on 32 bits. -/
theorem some_setWidth {w : Nat} (x : BitVec w) : some (x.setWidth 32) = some (BitVec.ofNat 32 x.toNat) :=
  congrArg some (BitVec.ofNat_toNat 32 x).symm

/-- Settles O43: each register by its row of the table, read when settled and read while busy. -/
theorem hostReadsHaveNoSideEffect : Obligations.HostReadsHaveNoSideEffect := by
  refine ⟨fun s => ⟨?_, fun i hi => ?_, fun i r v w hi hr => ?_, rfl, fun i hi => ?_, fun i hi => ?_⟩, rfl⟩
  · refine List.forall_mem_cons.mpr ⟨?_, List.forall_mem_cons.mpr ⟨?_, List.forall_mem_singleton.mpr ?_⟩⟩
    all_goals exact hostRead_settled rfl (some_setWidth _) (.inl rfl)
  · exact hostRead_settled (decide_eq_true hi) (some_setWidth _) (.inl rfl)
  · have hrow : r.inRange = true ∧ s.regValue r = some (BitVec.ofNat 32 v) ∧ r.isResult = true ∧ w = r.width := by
      simp only [List.mem_cons, List.not_mem_nil, or_false, Prod.mk.injEq] at hr
      obtain ⟨rfl, rfl, rfl⟩ | ⟨rfl, rfl, rfl⟩ | ⟨rfl, rfl, rfl⟩ | ⟨rfl, rfl, rfl⟩ | ⟨rfl, rfl, rfl⟩ | ⟨rfl, rfl, rfl⟩ |
        ⟨rfl, rfl, rfl⟩ | ⟨rfl, rfl, rfl⟩ := hr
      case inr.inr.inr.inr.inr.inr.inl => exact ⟨rfl, rfl, rfl, rfl⟩
      case inr.inr.inr.inr.inr.inr.inr => exact ⟨decide_eq_true hi, some_setWidth _, rfl, rfl⟩
      all_goals exact ⟨rfl, some_setWidth _, rfl, rfl⟩
    obtain ⟨hin, hv, hres, rfl⟩ := hrow
    exact ⟨fun hb => hostRead_settled hin hv (.inr hb), hostRead_busy hin hv hres⟩
  · exact hostRead_outOfRange (decide_eq_false (not_lt.mpr hi))
  · exact hostRead_outOfRange (decide_eq_false (not_lt.mpr hi))

/-! ### The steps, by whose turn it is (R20) -/

theorem step_of_nil {s : State} (h : s.sched = []) : step s = codecTurn s := by
  rw [step, h]

theorem step_of_cons {s : State} {u : Turn} {rest : List Turn} (h : s.sched = u :: rest) :
    step s = takeTurn u { s with sched := rest } := by
  rw [step, h]

theorem codecTurn_of_fetch {s : State} {i : Instr} (h : s.fetch = some i) : codecTurn s = exec i s := by
  rw [codecTurn, h]

theorem State.fetch_of_op {s : State} (hr : s.rst = false) {o : Op} {i : Instr}
    (hp : (o, i) ∈ [(Op.crc8, Instr.crc8), (.encData, .encData), (.encAck, .encAck), (.encOpen, .encOpen), (.encClose, .encClose),
        (.encEcho, .encEcho), (.reserved, .cmdReserved)]) (ho : s.op = o) : s.fetch = some i := by
  simp only [List.mem_cons, List.not_mem_nil, or_false, Prod.mk.injEq] at hp
  obtain ⟨rfl, rfl⟩ | ⟨rfl, rfl⟩ | ⟨rfl, rfl⟩ | ⟨rfl, rfl⟩ | ⟨rfl, rfl⟩ | ⟨rfl, rfl⟩ | ⟨rfl, rfl⟩ := hp <;>
    simp [State.fetch, hr, ho]

/-- Settles O39: `step` by the schedule, `fetch` by `op` and, in `DISPATCH`, by the header. -/
theorem stepRunsTheFetchedOperation : Obligations.StepRunsTheFetchedOperation := by
  refine ⟨fun s i hs hf => ?_, fun s i rest hs hf => ?_, fun s hs hf => ?_, fun s hr => ⟨?_, ?_, fun ho hd => ?_, fun i ho hd ha hi => ?_⟩⟩
  · rw [step_of_nil hs, codecTurn_of_fetch hf]
  · exact (step_of_cons hs).trans (codecTurn_of_fetch hf)
  · rw [step_of_nil hs, codecTurn, hf]
  · exact fun p hp ho => State.fetch_of_op hr hp ho
  · exact State.fetch_idle
  · simp [State.fetch, hr, ho, hd]
  · simp [State.fetch, State.headerCode, hr, ho, hd, ha, hi]

/-- Settles O46: each turn is one field's update. -/
theorem environmentTurnsTouchOnlyTheStreams : Obligations.EnvironmentTurnsTouchOnlyTheStreams := fun _ _ =>
  ⟨fun _ h => step_of_cons h, fun h => step_of_cons h, fun h => step_of_cons h, fun _ h => step_of_cons h⟩

/-! ### The state right after reset (R48) -/

/-- Settles O45: the reset state is a literal, and the six default tags differ. -/
theorem resetStateHoldsResetValues : Obligations.ResetStateHoldsResetValues :=
  ⟨rfl, rfl, rfl, rfl, rfl, rfl, rfl, rfl, rfl, rfl, rfl, rfl, rfl, rfl, rfl, rfl, rfl, rfl, rfl, rfl, rfl, rfl, rfl, by decide⟩

/-- Settles O47: the registers of `State.reset` are those that the pin restores. -/
theorem invariantsHoldAtReset : Obligations.InvariantsHoldAtReset :=
  ⟨{ Inv.resetRegs State.reset with }, { FlagsInv.resetRegs State.reset with }⟩

end Sys2Proof.Machine

/-! The two streams and the parameters (20_memory.md R60 to R80): what `RxRead` and `TxWrite` take and append, what a receive fault ends, and what no agent's turn touches. -/

namespace Sys2Proof.Machine

/-! ### The layout of a frame (R69) -/

/-- Two bytes received high byte first are a number (R68, R100). -/
theorem ofBytes_toNat (a b : Byte) : (ofBytes a b).toNat = a.toNat * 256 + b.toNat := by
  have hb : b.toNat < 2 ^ 8 := b.isLt
  rw [ofBytes, BitVec.toNat_append, ← Nat.shiftLeft_add_eq_or_of_lt hb, Nat.shiftLeft_eq]

/-- The two length bytes of a header add up to the length (R69). -/
theorem hiByte_loByte_toNat (v : Half) : (hiByte v).toNat * 256 + (loByte v).toNat = v.toNat := by
  rw [← ofBytes_toNat, ofBytes_hiByte_loByte]

/-- Settles O11: a frame is built in the order of R69, and its length field holds the count of all bytes without wrapping. -/
theorem emittedFrameLayout : Obligations.EmittedFrameLayout := by
  intro tag p hp
  refine ⟨hiByte (BitVec.ofNat 16 (p.length + OVERHEAD)), loByte (BitVec.ofNat 16 (p.length + OVERHEAD)), ?_, rfl⟩
  have hlt : p.length + 7 < 2 ^ 16 := by omega
  rw [hiByte_loByte_toNat, BitVec.toNat_ofNat, Nat.mod_eq_of_lt hlt]

/-! ### `DECODE` inside `RxRead` (R60, R62, R63) -/

/-- `s` with other streams, another fault condition and another count of free values drawn. -/
def State.withStreams (q : List Byte) (f : Bool) (h : List (List Byte)) (d : Nat) (s : State) : State :=
  { s with rxq := q, rxFault := f, txh := h, draws := d }

/-- What an operation does with a byte it has received neither reads nor writes the streams, the fault condition and the count of free values. -/
def StreamBlind (k : Byte → State → State) : Prop :=
  ∀ b q f h d (s : State), k b (s.withStreams q f h d) = (k b s).withStreams q f h d

/-- `t` has the two streams of `s`. -/
def State.SameStreams (s t : State) : Prop := t.rxq = s.rxq ∧ t.txh = s.txh

namespace StreamBlind

variable {k k' : Byte → State → State}

theorem ite {c : Byte → State → Prop} [∀ b s, Decidable (c b s)]
    (hc : ∀ b q f h d (s : State), c b (s.withStreams q f h d) ↔ c b s)
    (hk : StreamBlind k) (hk' : StreamBlind k') : StreamBlind fun b s => if c b s then k b s else k' b s := by
  intro b q f h d s
  simp only [hc, hk b q f h d s, hk' b q f h d s]
  split <;> rfl

theorem sameStreams (hk : StreamBlind k) (b : Byte) (s : State) : s.SameStreams (k b s) :=
  have h := hk b s.rxq s.rxFault s.txh s.draws s
  ⟨(congrArg State.rxq h :), (congrArg State.txh h :)⟩

/-- A byte that `RxRead` returns in spite of the fault is used as it is without the fault (R63). -/
theorem eq_of_rxFault (hk : StreamBlind k) (b : Byte) (d : Nat) {s t : State} {f : Bool} (ht : k b { s with rxFault := f } = t) :
    k b { s with draws := d } = { t with rxFault := s.rxFault, draws := d } := by
  obtain ⟨hq, hh⟩ := hk.sameStreams b { s with rxFault := f }
  rw [ht] at hq hh
  calc k b { s with draws := d }
    _ = (k b { s with rxFault := f }).withStreams s.rxq s.rxFault s.txh d := hk b s.rxq s.rxFault s.txh d { s with rxFault := f }
    _ = t.withStreams t.rxq s.rxFault t.txh d := by rw [ht, hq, hh]

end StreamBlind

/-- When `DECODE` is inside `RxRead` (R60): in `READ_PAYLOAD` only with payload still to come. -/
theorem State.rxReady_iff (s : State) : s.rxReady = true ↔ s.op = .decode ∧ s.ackPend = none ∧ s.rst = false ∧
    (s.rxState ∈ [.seekStart, .readLength, .readVersion, .readType, .readCrc, .readEnd] ∨
      (s.rxState = .readPayload ∧ lenOk s.len = true ∧ s.cnt.toNat < (plenOf s.len).toNat)) := by
  cases hs : s.rxState <;> simp [State.rxReady, hs, and_assoc]

/-- Inside `RxRead` the step of `DECODE` is one `RxRead(1)`, whether or not the fault is set. -/
theorem exec_decode_of_rxReady {s : State} (h : s.rxReady = true) :
    ∃ k, StreamBlind k ∧ ∀ f, exec .decode { s with rxFault := f } = .next (State.rxRead { s with rxFault := f } k) := by
  obtain ⟨_, ha, _, hs⟩ := s.rxReady_iff.mp h
  simp only [exec, execDecode, ha]
  simp only [List.mem_cons, List.not_mem_nil, or_false] at hs
  obtain (hs | hs | hs | hs | hs | hs) | ⟨hs, hl, hc⟩ := hs <;> simp only [hs]
  case inl.inr.inr.inr.inl => exact ⟨_, fun _ _ _ _ _ _ => rfl, fun _ => rfl⟩
  case inr =>
    simp only [State.readPayload, hl, hc, if_true]
    exact ⟨_, fun _ _ _ _ _ _ => rfl, fun _ => rfl⟩
  all_goals exact ⟨_, .ite (fun _ _ _ _ _ _ => .rfl) (fun _ _ _ _ _ _ => rfl) (fun _ _ _ _ _ _ => rfl), fun _ => rfl⟩

/-- The same of the state as it is. -/
theorem exec_decode_eq_rxRead {s : State} (h : s.rxReady = true) : ∃ k, StreamBlind k ∧ exec .decode s = .next (s.rxRead k) :=
  have ⟨k, hk, he⟩ := exec_decode_of_rxReady h
  ⟨k, hk, he s.rxFault⟩

/-- Settles O26: `RxRead` holds. -/
theorem decodeHoldsWithoutBytes : Obligations.DecodeHoldsWithoutBytes := by
  intro s h hq hf
  obtain ⟨k, _, he⟩ := exec_decode_eq_rxRead h
  simp [he, State.rxRead, hq, hf]

/-- Settles O27: by the answers of `RxRead` while the fault is set. -/
theorem receiveFaultEndsTheDecode : Obligations.ReceiveFaultEndsTheDecode := by
  intro s h hf
  obtain ⟨k, hk, he⟩ := exec_decode_of_rxReady h
  have hs : exec .decode s = .next (s.rxRead k) := he s.rxFault
  rw [hs, he false]
  obtain ⟨_, hf', _⟩ | ⟨hq, _, e⟩ | ⟨b, q, hq, _, e⟩ | ⟨b, q, hq, _, e⟩ | ⟨_, _, _, hf', _⟩ := s.rxRead_cases k
  case inl | inr.inr.inr.inr => cases hf.symm.trans hf'
  all_goals rw [e]
  case inr.inl =>
    refine ⟨fun _ => ⟨Config.rxFaultDrops s.draws, ?_⟩, fun hne => absurd hq hne⟩
    rw [State.rxTransportFault, hq, List.append_nil]
    rfl
  all_goals refine ⟨fun hnil => absurd (hq.symm.trans hnil) (List.cons_ne_nil _ _), fun _ => ?_⟩
  case inr.inr.inl => exact .inl ⟨_, _, rfl⟩
  case inr.inr.inr.inl =>
    refine .inr ⟨_, congrArg _ (State.rxRead_byte (s := { s with rxFault := false }) hq rfl k), ?_⟩
    rw [hk.eq_of_rxFault b (s.draws + 1) (s := { s with rxq := q }) rfl, hf]

/-! ### The turns of the other agents (R21) -/

/-- A host's turn reaches neither stream (R21). -/
theorem hostTurn_sameStreams {s t : State} {a : HostAct} (h : hostTurn a s = .next t) : s.SameStreams t := by
  cases a with
  | writeCmd | writeArg | writeTlen => cases h; exact keeps_ite_writable (P := s.SameStreams) ⟨rfl, rfl⟩ fun _ => ⟨rfl, rfl⟩
  | writeTbuf i v =>
    simp only [hostTurn] at h
    split at h <;> cases h
    exact keeps_ite_writable (P := s.SameStreams) ⟨rfl, rfl⟩ fun _ => ⟨rfl, rfl⟩
  | read r =>
    simp only [hostTurn, hostRead] at h
    split at h
    case isFalse => cases h
    split at h
    case h_1 => cases h
    split at h <;> cases h <;> exact ⟨rfl, rfl⟩

/-- Of the agents other than CODEC only RXENV reaches a stream, and it appends to `rxq` (R21, R61). -/
theorem takeTurn_streams {s t : State} {u : Turn} (hu : u ≠ .codec) (h : takeTurn u s = .next t) :
    s.rxq <+: t.rxq ∧ t.txh = s.txh := by
  have same : s.SameStreams t → s.rxq <+: t.rxq ∧ t.txh = s.txh := fun ⟨hq, hh⟩ => ⟨hq ▸ List.prefix_rfl, hh⟩
  cases u with
  | codec => exact absurd rfl hu
  | host a => exact same (hostTurn_sameStreams h)
  | rx a =>
    cases h
    cases a with
    | deliver b => exact ⟨List.prefix_append _ _, rfl⟩
    | fail | recover => exact same ⟨rfl, rfl⟩
  | tx a => cases h; exact same ⟨rfl, rfl⟩
  | rst level => cases h; cases level <;> exact same ⟨rfl, rfl⟩

/-! ### What a step of `DECODE` is, seen from the two ports -/

/-- A step of `DECODE` is an `RxRead(1)`, the `TxWrite` of a fault `ack`, the dispatch operation, or touches neither stream (R60, R79, R200). -/
theorem exec_decode_cases {s t : State} (hr : s.rst = false) (ho : s.op = .decode) (h : exec .decode s = .next t) :
    (s.rxReady = true ∧ ∃ k, StreamBlind k ∧ t = s.rxRead k) ∨ (∃ c, s.ackPend = some c ∧ t = s.sendPendingAck c) ∨
      (s.ackPend = none ∧ s.rxState = .dispatch ∧ dispatch s = .next t) ∨ s.SameStreams t := by
  by_cases hx : s.rxReady = true
  · obtain ⟨k, hk, he⟩ := exec_decode_eq_rxRead hx
    cases he.symm.trans h
    exact .inl ⟨hx, k, hk, rfl⟩
  cases ha : s.ackPend with
  | some c =>
    simp only [exec, execDecode, ha, Host.Outcome.next.injEq] at h
    exact .inr (.inl ⟨c, rfl, h.symm⟩)
  | none =>
    rw [s.rxReady_iff] at hx
    cases hs : s.rxState <;> simp only [exec, execDecode, ha, hs] at h
    case idle => cases h; exact .inr (.inr (.inr ⟨rfl, rfl⟩))
    case dispatch => exact .inr (.inr (.inl ⟨rfl, rfl, h⟩))
    case readPayload =>
      cases h
      unfold State.readPayload
      split
      case isFalse => exact .inr (.inr (.inr ⟨rfl, rfl⟩))
      case isTrue hl =>
        rw [if_neg fun hc => hx ⟨ho, ha, hr, .inr ⟨hs, hl, hc⟩⟩]
        exact .inr (.inr (.inr ⟨rfl, rfl⟩))
    all_goals exact absurd ⟨ho, ha, hr, .inl (by simp [hs])⟩ hx

/-! ### The receive queue (R62, R78) -/

theorem State.emit_rxq (tag : Byte) (p : List Byte) (s : State) {k : State → State} (hk : ∀ u, (k u).rxq = u.rxq) :
    (s.emit tag p k).rxq = s.rxq := by
  obtain ⟨_, e⟩ | ⟨_, e⟩ | ⟨_, e⟩ := State.emit_cases tag p s k <;> rw [e]
  · exact hk _
  all_goals rfl

theorem State.handOver_rxq (tag : Byte) (p : List Byte) (s : State) : (s.handOver tag p).rxq = s.rxq :=
  State.emit_rxq tag p s fun _ => rfl

theorem CommandMove.rxq {s t : State} (h : CommandMove s t) : t.rxq = s.rxq := by
  cases h with
  | result => rfl
  | handOver tag p => exact s.handOver_rxq tag p

theorem DispatchMove.rxq {s t : State} (h : DispatchMove s t) : t.rxq = s.rxq := by
  cases h with
  | reply tag p => exact State.handOver_rxq tag p { s with resTag := s.typ }
  | unknownAck => exact State.handOver_rxq _ _ { s.setFlag fTYPE with resTag := s.typ }
  | _ => rfl

/-- Without a fault `RxRead(1)` waits or takes the head of `rxq` (R62). -/
theorem StreamBlind.rxRead_rxq {k : Byte → State → State} (hk : StreamBlind k) {s : State} (hf : s.rxFault = false) :
    (s.rxRead k).rxq = s.rxq ∨ ∃ b, s.rxq = b :: (s.rxRead k).rxq := by
  cases hq : s.rxq with
  | nil => exact .inl (by simp [State.rxRead, hq, hf])
  | cons b q =>
    rw [State.rxRead_byte hq hf]
    exact .inr ⟨b, congrArg _ (hk.sameStreams b { s with rxq := q }).1.symm⟩

/-- While `rst` is asserted CODEC's turn does nothing (R260). -/
theorem codecTurn_of_rst {s : State} (hr : s.rst = true) : codecTurn s = .next s := by
  simp [codecTurn, State.fetch, hr]

/-- Without a fault CODEC's turn leaves `rxq`, or takes its head inside `RxRead` (R60, R62). -/
theorem codecTurn_rxq {s t : State} (hf : s.rxFault = false) (h : codecTurn s = .next t) :
    t.rxq = s.rxq ∨ (s.rxReady = true ∧ ∃ b, s.rxq = b :: t.rxq) := by
  cases hr : s.rst with
  | true => cases (codecTurn_of_rst hr).symm.trans h; exact .inl rfl
  | false =>
    obtain rfl | ⟨ho, _⟩ | ⟨_, _, hm⟩ := codecTurn_cases h
    · exact .inl rfl
    · rw [codecTurn_decode hr ho] at h
      obtain ⟨hx, k, hk, rfl⟩ | ⟨c, _, rfl⟩ | ⟨_, _, hd⟩ | hst := exec_decode_cases hr ho h
      · exact (hk.rxRead_rxq hf).imp_right fun hb => ⟨hx, hb⟩
      · exact .inl (s.emit_rxq _ _ fun _ => rfl)
      · exact .inl (dispatchMove_of_dispatch hd).rxq
      · exact .inl hst.1
    · exact .inl hm.rxq

/-- Settles O53: of CODEC's steps only an `RxRead(1)` reaches `rxq`, and the other agents only append to it. -/
theorem onlyDecodeConsumesAndOneByteAtATime : Obligations.OnlyDecodeConsumesAndOneByteAtATime :=
  ⟨fun _ _ hf h => codecTurn_rxq hf h, fun _ _ _ hu h => (takeTurn_streams hu h).1⟩

/-! ### The transmit history (R65, R67) -/

/-- `t` has the transmit history of `s`, or, the transport accepting, one frame more: the one the transmit port of `s` offers. -/
def State.SendsOffer (s t : State) : Prop :=
  t.txh = s.txh ∨ (s.txEnv = .accept ∧ ∃ f, s.txOffer = some f ∧ t.txh = s.txh ++ [f])

/-- `t` differs from `s` in nothing that a `TxWrite` depends on. -/
def State.SameTransmit (s t : State) : Prop := t.txEnv = s.txEnv ∧ t.txh = s.txh ∧ t.txDone = s.txDone

namespace State.SendsOffer

variable {s t u : State} {tag : Byte} {p : List Byte}

theorem emit (hu : s.SameTransmit u) {k : State → State} (hk : ∀ v, (k v).txh = v.txh) (ho : s.txOffer = some (frame tag p)) :
    s.SendsOffer (u.emit tag p k) := by
  obtain ⟨hte, hth, _⟩ := hu
  obtain ⟨he, e⟩ | ⟨_, e⟩ | ⟨_, e⟩ := State.emit_cases tag p u k <;> rw [e]
  · exact .inr ⟨hte.symm.trans he, _, ho, by rw [hk, hth]⟩
  all_goals exact .inl hth

theorem handOver (hu : s.SameTransmit u) (ho : s.txOffer = some (frame tag p)) : s.SendsOffer (u.handOver tag p) :=
  emit hu (fun _ => rfl) ho

theorem emitAndFinish (ho : s.txDone = false → s.txOffer = some (frame tag p)) : s.SendsOffer (s.emitAndFinish tag p) := by
  cases hd : s.txDone with
  | true => rw [State.emitAndFinish_of_sent hd]; exact .inl rfl
  | false => rw [State.emitAndFinish_of_unsent hd]; exact handOver ⟨rfl, rfl, rfl⟩ (ho hd)

theorem emitOperand (ho : s.txDone = false → s.operandFits = true → s.txOffer = some (frame tag s.operand)) :
    s.SendsOffer (s.emitOperand tag) := by
  unfold State.emitOperand
  split
  case isTrue hfit => exact emitAndFinish fun hd => ho hd hfit
  case isFalse => exact .inl rfl

theorem replyThenFinish (hu : s.SameTransmit u) (k : ResKind) (ho : s.txDone = false → s.txOffer = some (frame tag p)) :
    s.SendsOffer (u.replyThenFinish tag p k) := by
  obtain ⟨_, hth, htd⟩ := id hu
  cases hd : u.txDone with
  | true => rw [State.replyThenFinish_of_sent hd]; exact .inl hth
  | false => rw [State.replyThenFinish_of_unsent hd]; exact handOver hu (ho (htd.symm.trans hd))

theorem unknownType (hu : s.SameTransmit u) (hc : u.cfg = s.cfg) (ho : s.txDone = false → s.txOffer = some (frame s.cfg.tagAck [ERR_TYPE])) :
    s.SendsOffer u.unknownType := by
  obtain ⟨_, hth, htd⟩ := id hu
  cases hd : u.txDone with
  | true => rw [State.unknownType_of_sent hd]; exact .inl hth
  | false => rw [State.unknownType_of_unsent hd, hc]; exact handOver hu (ho (htd.symm.trans hd))

/-- A dispatch operation is `k` after `RES_TAG` is written, or ends at a malformed length. -/
theorem enterDispatch {typ : Byte} {k : State → Host.Outcome State Fault Refusal} (h : s.enterDispatch s.len typ k = .next t)
    (hk : lenOk s.len = true → k { s with resTag := typ } = .next t → s.SendsOffer t) : s.SendsOffer t := by
  obtain ⟨hl, e⟩ | ⟨_, e⟩ := State.enterDispatch_cases s.len typ s k <;> rw [e] at h
  · exact hk hl h
  · cases h; exact .inl rfl

theorem rxRead {k : Byte → State → State} (hk : StreamBlind k) : s.SendsOffer (s.rxRead k) := by
  obtain ⟨_, _, e⟩ | ⟨_, _, e⟩ | ⟨_, _, _, _, e⟩ | ⟨b, q, _, _, e⟩ | ⟨b, q, _, _, e⟩ := State.rxRead_cases s k <;> rw [e]
  case inr.inr.inr.inl => exact .inl (hk.sameStreams b _).2
  case inr.inr.inr.inr => exact .inl (hk.sameStreams b _).2
  all_goals exact .inl rfl

end State.SendsOffer

/-- A fault `ack` that is due is the frame offered (R79). -/
theorem State.txOffer_of_ackPend {s : State} {c : Byte} (hr : s.rst = false) (ho : s.op = .decode) (hc : s.ackPend = some c) :
    s.txOffer = some (frame s.cfg.tagAck [c]) := by
  simp [State.txOffer, hr, ho, hc]

/-- In `DISPATCH` the reply is offered until it has been handed over (R212). -/
theorem State.txOffer_of_dispatch {s : State} (hr : s.rst = false) (ho : s.op = .decode) (ha : s.ackPend = none)
    (hs : s.rxState = .dispatch) (hl : lenOk s.len = true) (hd : s.txDone = false) : s.txOffer = s.replyFrame := by
  simp [State.txOffer, State.finalFrame, hr, ho, ha, hs, hl, hd]

/-- A command other than `DECODE` offers its frame until it has been handed over (R150). -/
theorem State.txOffer_of_command {s : State} (hr : s.rst = false) (ho : s.op ≠ .decode) (hd : s.txDone = false) :
    s.txOffer = s.finalFrame := by
  simp [State.txOffer, hr, ho, hd]

/-- The receipt of an `ack` frame sends nothing (R203, R204). -/
theorem State.SendsOffer.execRxAck {s t : State} {ver : Byte} (h : execRxAck s.len ver s = .next t) : s.SendsOffer t := by
  refine .enterDispatch h fun _ h => ?_
  simp only [runAckCode_eq] at h
  split at h
  · cases h; exact .inl rfl
  · split at h <;> cases h <;> exact .inl rfl

/-- The reply that dispatch hands over is the one offered (R212). -/
theorem sendsOffer_of_dispatch {s t : State} (hr : s.rst = false) (ho : s.op = .decode) (ha : s.ackPend = none)
    (hs : s.rxState = .dispatch) (h : dispatch s = .next t) : s.SendsOffer t := by
  have offer {f} (hl : lenOk s.len = true) (hf : s.replyFrame = some f) (hd : s.txDone = false) : s.txOffer = some f :=
    (State.txOffer_of_dispatch hr ho ha hs hl hd).trans hf
  unfold dispatch at h
  split at h
  case isTrue => exact .enterDispatch h fun _ h => by cases h; exact .inl rfl
  case isFalse hdata =>
  split at h
  case isTrue => exact .execRxAck h
  case isFalse hack =>
  split at h
  case isTrue hopen =>
    have hf : s.replyFrame = some (frame TAG_OPEN []) := by
      rw [State.replyFrame, if_neg hdata, if_neg hack, if_pos hopen]
    exact .enterDispatch h fun hl h => by cases h; exact .replyThenFinish ⟨rfl, rfl, rfl⟩ _ (offer hl hf)
  case isFalse hopen =>
  split at h
  case isTrue hclose =>
    have hf : s.replyFrame = some (frame s.cfg.tagClose []) := by
      rw [State.replyFrame, if_neg hdata, if_neg hack, if_neg hopen, if_pos hclose]
    exact .enterDispatch h fun hl h => by cases h; exact .replyThenFinish ⟨rfl, rfl, rfl⟩ _ (offer hl hf)
  case isFalse hclose =>
  split at h
  case isTrue hecho =>
    have hf : s.replyFrame = some (frame s.cfg.tagData (s.payload s.len)) := by
      rw [State.replyFrame, if_neg hdata, if_neg hack, if_neg hopen, if_neg hclose, if_pos hecho]
    exact .enterDispatch h fun hl h => by cases h; exact .replyThenFinish ⟨rfl, rfl, rfl⟩ _ (offer hl hf)
  case isFalse hecho =>
  have unknown (hn : ¬ (s.typ = s.cfg.tagTest ∧ s.cfg.testKnown = true)) : s.replyFrame = some (frame s.cfg.tagAck [ERR_TYPE]) := by
    rw [State.replyFrame, if_neg hdata, if_neg hack, if_neg hopen, if_neg hclose, if_neg hecho, if_neg (by simpa using hn)]
  split at h
  case isTrue =>
    refine .enterDispatch h fun hl h => ?_
    split at h
    case isTrue => cases h; exact .inl rfl
    case isFalse hk => cases h; exact .unknownType ⟨rfl, rfl, rfl⟩ rfl (offer hl (unknown fun hn => hk hn.2))
  case isFalse htest =>
    exact .enterDispatch h fun hl h => by
      cases h; exact .unknownType ⟨rfl, rfl, rfl⟩ rfl (offer hl (unknown fun hn => htest hn.1))

/-- Whatever operation runs, the frame it hands over is the one offered (R65). -/
theorem sendsOffer_of_codecTurn {s t : State} (h : codecTurn s = .next t) : s.SendsOffer t := by
  cases hr : s.rst with
  | true => cases (codecTurn_of_rst hr).symm.trans h; exact .inl rfl
  | false =>
    by_cases hd : s.op = .decode
    · rw [codecTurn_decode hr hd] at h
      obtain ⟨_, k, hk, rfl⟩ | ⟨c, hc, rfl⟩ | ⟨ha, hs, hd'⟩ | hst := exec_decode_cases hr hd h
      · exact .rxRead hk
      · exact .emit ⟨rfl, rfl, rfl⟩ (fun _ => rfl) (State.txOffer_of_ackPend hr hd hc)
      · exact sendsOffer_of_dispatch hr hd ha hs hd'
      · exact .inl hst.2
    have offer := fun hu => State.txOffer_of_command hr hd hu
    unfold State.finalFrame at offer
    cases ho : s.op <;> simp only [codecTurn, State.fetch, hr, ho] at h hd offer
    case decode => exact absurd trivial hd
    case none | crc8 | reserved => cases h; exact .inl rfl
    case encData | encEcho => cases h; exact .emitOperand fun hu hfit => (offer hu).trans (if_pos hfit)
    case encAck | encOpen | encClose => cases h; exact .emitAndFinish offer

/-- Settles O54: what CODEC hands over is what its port offered, and no other agent reaches `txh`. -/
theorem onlyTheOfferedFrameIsSent : Obligations.OnlyTheOfferedFrameIsSent :=
  ⟨fun _ _ h => sendsOffer_of_codecTurn h, fun _ _ _ hu h => (takeTurn_streams hu h).2⟩

/-! ### The parameters (R22, R80) -/

theorem State.handOver_cfg (tag : Byte) (p : List Byte) (s : State) : (s.handOver tag p).cfg = s.cfg := by
  obtain ⟨_, e⟩ | ⟨_, e⟩ | ⟨_, e⟩ := State.handOver_cases tag p s
  all_goals simp [e]

theorem CommandMove.cfg {s t : State} (h : CommandMove s t) : t.cfg = s.cfg := by
  cases h with
  | result => rfl
  | handOver tag p => exact s.handOver_cfg tag p

theorem ByteMove.cfg {b : Byte} {s t : State} (h : ByteMove b s t) : t.cfg = s.cfg := by
  cases h <;> rfl

theorem DispatchMove.cfg {s t : State} (h : DispatchMove s t) : t.cfg = s.cfg := by
  cases h with
  | reply tag p => exact State.handOver_cfg tag p { s with resTag := s.typ }
  | unknownAck => exact State.handOver_cfg _ _ { s.setFlag fTYPE with resTag := s.typ }
  | _ => rfl

theorem DecodeMove.cfg {s t : State} (h : DecodeMove s t) : t.cfg = s.cfg := by
  cases h with
  | byte _ _ _ _ _ _ hm => exact hm.cfg
  | dispatch _ _ _ hd => exact (dispatchMove_of_dispatch hd).cfg
  | _ => rfl

/-- Settles O57: no move of any agent writes `cfg`. -/
theorem parametersNeverChange : Obligations.ParametersNeverChange := fun s _ h =>
  step_keeps (P := fun t => t.cfg = s.cfg) (fun _ _ e hs => (congrArg State.cfg e).trans hs) (fun _ _ _ _ hs => hs) (fun _ _ _ hs => hs)
    (fun _ hs => hs) (fun _ _ _ hm hs => hm.cfg.trans hs) (fun _ _ _ _ hm hs => hm.cfg.trans hs) rfl h

end Sys2Proof.Machine

/-! The three encodings (30_encoding.md R90 to R123): the decoder is read off the encoder and back, and what selects a dispatch operation follows from that. -/

namespace Sys2Proof.Machine

/-! ### The two directions, for each group of the opcode table (R123) -/

/-- Each of the eight command codes is that of one command (R110, R111). -/
theorem decodeCmd_wf_encode (c : Config) (code : BitVec 3) :
    WellFormed c (decodeCmd code) ∧ encode c (decodeCmd code) = .cmd code := by
  obtain ⟨⟨n, hn⟩⟩ := code
  interval_cases n <;> exact ⟨rfl, rfl⟩

theorem decodeAckCode_of_le {b : Byte} (h : 7 ≤ b.toNat) : decodeAckCode b = .ackUnknown b := by
  unfold decodeAckCode
  split
  case h_8 => rfl
  all_goals omega

/-- The code bytes 0 to 6 have rows of their own, every other byte the default row (R107, R113). -/
theorem decodeAckCode_wf_encode (c : Config) (b : Byte) :
    WellFormed c (decodeAckCode b) ∧ encode c (decodeAckCode b) = .ackCode b := by
  rcases Nat.lt_or_ge b.toNat 7 with h | h
  · obtain ⟨⟨n, hn⟩⟩ := b
    change n < 7 at h
    interval_cases n <;> exact ⟨rfl, rfl⟩
  · rw [decodeAckCode_of_le h]
    exact ⟨decide_eq_true h, rfl⟩

@[simp] theorem headerBytes_ofBytes (l1 l0 ver typ : Byte) :
    headerBytes (ofBytes l1 l0) ver typ = [START, l1, l0, ver, typ] := by
  rw [headerBytes, hiByte_ofBytes, loByte_ofBytes]

/-- What follows the start marker decides about a header: its length field whether a row applies, its type byte which (R106, R123). -/
theorem decode_headerBytes (c : Config) (len : Half) (ver typ : Byte) :
    decode c (.header (headerBytes len ver typ)) =
      if OVERHEAD ≤ len.toNat then .ok (frameInstr c len ver typ) else .error .malformedLength := by
  simp [decode, headerBytes, decodeHeader]

theorem not_mem_tags_iff {c : Config} {typ : Byte} :
    typ ∉ c.tags ↔ typ ≠ c.tagData ∧ typ ≠ c.tagAck ∧ typ ≠ TAG_OPEN ∧ typ ≠ c.tagClose ∧ typ ≠ c.tagEcho ∧ typ ≠ c.tagTest := by
  simp only [Config.tags, List.mem_cons, List.not_mem_nil, or_false, not_or, ne_eq]

/-- The default row applies when no other FRAME row does (R123). -/
theorem wellFormed_rxUnknown_iff {c : Config} {len : Half} {ver typ : Byte} :
    WellFormed c (.rxUnknown len ver typ) ↔ OVERHEAD ≤ len.toNat ∧ typ ∉ c.tags := by
  simp only [WellFormed, Instr.wf, Bool.and_eq_true, decide_eq_true_eq, Bool.not_eq_true', List.contains_eq_mem, decide_eq_false_iff_not]

/-- The type byte of a row is the one that selected it, whatever the tags are (R105). -/
theorem frameInstr_wf_encode (c : Config) {len : Half} (hlen : OVERHEAD ≤ len.toNat) (ver typ : Byte) :
    WellFormed c (frameInstr c len ver typ) ∧ encode c (frameInstr c len ver typ) = .header (headerBytes len ver typ) := by
  unfold frameInstr
  repeat' split
  case isFalse hdata hack hopen hclose hecho htest =>
    exact ⟨wellFormed_rxUnknown_iff.mpr ⟨hlen, not_mem_tags_iff.mpr ⟨hdata, hack, hopen, hclose, hecho, htest⟩⟩, rfl⟩
  all_goals subst typ; exact ⟨decide_eq_true hlen, rfl⟩

/-- A header that is accepted has the five bytes of R90, with a length field of 7 or more. -/
theorem decodeHeader_eq_ok {c : Config} {bytes : List Byte} {i : Instr} (h : decodeHeader c bytes = .ok i) :
    ∃ len ver typ, bytes = headerBytes len ver typ ∧ OVERHEAD ≤ len.toNat ∧ i = frameInstr c len ver typ := by
  unfold decodeHeader at h
  split at h
  case h_2 => cases h
  case h_1 start l1 l0 ver typ =>
    split at h
    case isFalse => cases h
    case isTrue hstart =>
      split at h
      case isFalse => cases h
      case isTrue hlen =>
        cases h
        exact ⟨ofBytes l1 l0, ver, typ, by rw [headerBytes_ofBytes, hstart], hlen, rfl⟩

/-- Settles O2, group by group. -/
theorem encodeOfDecodeIsTheWord : Obligations.EncodeOfDecodeIsTheWord := by
  intro c code i h
  cases code with
  | cmd code => cases h; exact decodeCmd_wf_encode c code
  | ackCode b => cases h; exact decodeAckCode_wf_encode c b
  | header bytes =>
    obtain ⟨len, ver, typ, rfl, hlen, rfl⟩ := decodeHeader_eq_ok h
    exact frameInstr_wf_encode c hlen ver typ

theorem decode_headerBytes_eq_ok {c : Config} {len : Half} {ver typ : Byte} {i : Instr} (hlen : OVERHEAD ≤ len.toNat)
    (hi : frameInstr c len ver typ = i) : decode c (.header (headerBytes len ver typ)) = .ok i := by
  rw [decode_headerBytes, if_pos hlen, hi]

/-- Settles O1: a command and a code byte by their tables, a FRAME row because no earlier comparison of `frameInstr` takes its tag. -/
theorem decodeOfEncodeIsTheInstruction : Obligations.DecodeOfEncodeIsTheInstruction := by
  intro c i hc hi
  -- distinctness read backwards, as `frameInstr` compares: each tag with those before it
  have hne : [c.tagTest, c.tagEcho, c.tagClose, TAG_OPEN, c.tagAck, c.tagData].Nodup := List.nodup_reverse.mpr hc
  simp only [List.nodup_cons, List.mem_cons, List.not_mem_nil, or_false, not_or] at hne
  cases i with
  | crc8 | encData | encAck | encOpen | encClose | encEcho | decode | cmdReserved => rfl
  | ackNoError | ackCrc | ackVersion | ackEnding | ackType | ackOpened | ackClosed => rfl
  | ackUnknown code => exact congrArg Except.ok (decodeAckCode_of_le (of_decide_eq_true hi))
  | rxData | rxAck | rxOpen | rxClose | rxEcho | rxTest =>
    refine decode_headerBytes_eq_ok (of_decide_eq_true hi) ?_
    simp only [frameInstr, hne, if_true, if_false]
  | rxUnknown len ver typ =>
    obtain ⟨hlen, htyp⟩ := wellFormed_rxUnknown_iff.mp hi
    rw [not_mem_tags_iff] at htyp
    exact decode_headerBytes_eq_ok hlen (by simp only [frameInstr, htyp, if_false])

/-- With distinct tags the words that decode and the well-formed instructions correspond one to one (R105, R123). -/
theorem decode_eq_ok_iff {c : Config} (hc : c.distinct) {code : Code} {i : Instr} :
    decode c code = .ok i ↔ WellFormed c i ∧ encode c i = code := by
  constructor
  · exact encodeOfDecodeIsTheWord c code i
  · rintro ⟨hi, rfl⟩
    exact decodeOfEncodeIsTheInstruction c i hc hi

/-- A row is selected exactly by its own header. -/
theorem frameInstr_eq_iff {c : Config} (hc : c.distinct) {len : Half} (hlen : OVERHEAD ≤ len.toNat) {ver typ : Byte} {i : Instr} :
    frameInstr c len ver typ = i ↔ WellFormed c i ∧ encode c i = .header (headerBytes len ver typ) := by
  rw [← decode_eq_ok_iff hc, decode_headerBytes, if_pos hlen, Except.ok.injEq]

/-- Of a row's header only the type byte is left to select it (R106). -/
theorem frameInstr_eq_iff_typ_eq {c : Config} (hc : c.distinct) {len : Half} (hlen : OVERHEAD ≤ len.toNat) {ver typ tag : Byte}
    {i : Instr} (hi : WellFormed c i) (he : encode c i = .header (headerBytes len ver tag)) :
    frameInstr c len ver typ = i ↔ typ = tag := by
  simp [frameInstr_eq_iff hc hlen, hi, he, headerBytes, eq_comm]

/-! ### Headers that are rejected, and the length field (R91, R100, R114) -/

/-- Settles O4, by the decoder's two conditions. -/
theorem headersAreRejectedByStartAndLength : Obligations.HeadersAreRejectedByStartAndLength := by
  intro c start l1 l0 ver typ
  rw [← headerBytes_ofBytes, decode_headerBytes, ofBytes_toNat]
  refine ⟨fun hstart => ?start, fun hlen => ?short, fun hlen => ?long⟩
  case start => exact if_neg hstart
  case short => exact if_neg (not_le.mpr hlen)
  case long => exact ⟨_, if_pos hlen⟩

theorem lenOk_iff {len : Half} : lenOk len = true ↔ OVERHEAD ≤ len.toNat := decide_eq_true_iff

theorem plenOf_toNat {len : Half} (h : lenOk len = true) : (plenOf len).toNat = len.toNat - OVERHEAD :=
  BitVec.toNat_sub_of_le (BitVec.le_def.mpr (lenOk_iff.mp h))

/-- Settles O5, by the two halves of `ofBytes` and the length validator. -/
theorem lengthFieldIsBigEndian : Obligations.LengthFieldIsBigEndian :=
  ⟨fun b0 b1 => ⟨ofBytes_toNat b0 b1, hiByte_ofBytes b0 b1, loByte_ofBytes b0 b1⟩, fun _ => ⟨lenOk_iff, plenOf_toNat⟩⟩

/-! ### What the words select (R105, R111, R123) -/

theorem State.fetch_dispatch {s : State} (hr : s.rst = false) (ho : s.op = .decode) (hd : s.rxState = .dispatch)
    (ha : s.ackPend = none) (hlen : OVERHEAD ≤ s.len.toNat) : s.fetch = some (frameInstr s.cfg s.len s.ver s.typ) := by
  simp only [State.fetch, hr, ho, hd, ha, decode_headerCode, hlen]
  rfl

/-- Settles O29: the operation fetched is the row of the header received, and each row has one type byte. -/
theorem dispatchSelectsByTypeAlone : Obligations.DispatchSelectsByTypeAlone := by
  intro s hr ho hd ha hlen hc
  have hf := State.fetch_dispatch hr ho hd ha hlen
  have hwf := decide_eq_true hlen
  have row {i : Instr} {tag : Byte} := frameInstr_eq_iff_typ_eq (ver := s.ver) (typ := s.typ) (i := i) (tag := tag) hc hlen
  refine ⟨_, hf, (codecTurn_decode hr ho).symm.trans (codecTurn_of_fetch hf), row hwf rfl, row hwf rfl, row hwf rfl,
    row hwf rfl, row hwf rfl, row hwf rfl, ?_⟩
  rw [frameInstr_eq_iff hc hlen, wellFormed_rxUnknown_iff]
  exact ⟨fun ⟨⟨_, htyp⟩, _⟩ => htyp, fun htyp => ⟨⟨hlen, htyp⟩, rfl⟩⟩

/-- Settles O3, by running the decoder. -/
theorem specWordsDecodeAsWritten : Obligations.SpecWordsDecodeAsWritten := by
  unfold Obligations.SpecWordsDecodeAsWritten
  decide

/-- Settles O17, by the row's definition. -/
theorem reservedCodeIsRejected : Obligations.ReservedCodeIsRejected := ⟨rfl, fun _ => rfl⟩

theorem State.enterDispatch_of_lt {len : Half} (hlen : len.toNat < OVERHEAD) (typ : Byte) (s : State)
    (k : State → Host.Outcome State Fault Refusal) : s.enterDispatch len typ k = .next s.malformedLength :=
  if_neg (fun h => not_le.mpr hlen (lenOk_iff.mp h))

/-- The FRAME rows with one length field and one version byte (R123). -/
def frameRows (len : Half) (ver typ : Byte) : List Instr :=
  [.rxData len ver, .rxAck len ver, .rxOpen len ver, .rxClose len ver, .rxEcho len ver, .rxTest len ver, .rxUnknown len ver typ]

theorem mem_frameRows {len : Half} {ver typ : Byte} {i : Instr} : i ∈ frameRows len ver typ ↔
    i = .rxData len ver ∨ i = .rxAck len ver ∨ i = .rxOpen len ver ∨ i = .rxClose len ver ∨ i = .rxEcho len ver ∨
      i = .rxTest len ver ∨ i = .rxUnknown len ver typ := by
  simp only [frameRows, List.mem_cons, List.not_mem_nil, or_false]

theorem overhead_le_of_mem_frameRows {c : Config} {len : Half} {ver typ : Byte} {i : Instr} (hi : i ∈ frameRows len ver typ)
    (hwf : WellFormed c i) : OVERHEAD ≤ len.toNat := by
  obtain rfl | rfl | rfl | rfl | rfl | rfl | rfl := mem_frameRows.mp hi
  case inr.inr.inr.inr.inr.inr => exact (wellFormed_rxUnknown_iff.mp hwf).1
  all_goals exact of_decide_eq_true hwf

/-- Each FRAME row begins with the common entry of dispatch (R200). -/
theorem exec_of_mem_frameRows {len : Half} {ver typ : Byte} {i : Instr} (hi : i ∈ frameRows len ver typ) (s : State) :
    ∃ tag k, exec i s = s.enterDispatch len tag k := by
  obtain rfl | rfl | rfl | rfl | rfl | rfl | rfl := mem_frameRows.mp hi
  all_goals
    simp only [exec, execRxData, execRxAck, execRxOpen, execRxClose, execRxEcho, execRxTest, execRxUnknown]
    exact ⟨_, _, rfl⟩

/-- Settles O37: a short length ends every FRAME row at its entry. -/
theorem shortLengthIsNotDispatched : Obligations.ShortLengthIsNotDispatched := by
  intro s len ver typ i hlen hi
  refine ⟨fun hwf => not_le.mpr hlen (overhead_le_of_mem_frameRows hi hwf), ?_⟩
  obtain ⟨tag, k, he⟩ := exec_of_mem_frameRows hi s
  rw [he, State.enterDispatch_of_lt hlen]
  rfl

end Sys2Proof.Machine

/-! The checksum generator (40_crc8.md R130 to R141): the bit step is linear over XOR and one to one, and the byte update and the fold keep both. -/

namespace Sys2Proof.Machine

/-! ### The bit step (R133) -/

/-- The two branches as one XOR: what is shifted out decides whether `POLY` comes in. -/
theorem crcBit_eq_xor (c : Byte) : crcBit c = (c <<< 1) ^^^ (if c.getLsbD 7 then POLY else 0) := by
  have hmsb : c.msb = c.getLsbD 7 := BitVec.msb_eq_getLsbD_last c
  rw [crcBit, hmsb]
  split
  · rfl
  · exact BitVec.xor_zero.symm

theorem crcBit_getLsbD (c : Byte) (i : Nat) :
    (crcBit c).getLsbD i = ((c <<< 1).getLsbD i ^^ (c.getLsbD 7 && POLY.getLsbD i)) := by
  rw [crcBit_eq_xor, BitVec.getLsbD_xor]
  cases c.getLsbD 7
  · exact congrArg _ BitVec.getLsbD_zero
  · rfl

theorem crcBit_getLsbD_zero (c : Byte) : (crcBit c).getLsbD 0 = c.getLsbD 7 := by
  have hpoly : POLY.getLsbD 0 = true := by decide
  rw [crcBit_getLsbD, hpoly, Bool.and_true, BitVec.getLsbD_shiftLeft]
  exact Bool.false_xor _

theorem crcBit_getLsbD_succ (c : Byte) {i : Nat} (hi : i + 1 < 8) :
    (crcBit c).getLsbD (i + 1) = (c.getLsbD i ^^ (c.getLsbD 7 && POLY.getLsbD (i + 1))) := by
  have hshift : (c <<< 1).getLsbD (i + 1) = c.getLsbD i := by
    rw [BitVec.getLsbD_shiftLeft, decide_eq_true hi]
    rfl
  rw [crcBit_getLsbD, hshift]

/-- Settles O6: the two branches of the step, then bit 0 and the seven bits above it, of which `POLY` touches the lowest two. -/
theorem crcBitStepPerBit : Obligations.CrcBitStepPerBit := by
  intro c
  refine ⟨fun h => ?set, fun h => ?clear, crcBit_getLsbD_zero c, ?bits⟩
  case set => rw [crcBit_eq_xor, if_pos h]
  case clear => rw [crcBit_eq_xor, h]; exact BitVec.xor_zero
  case bits =>
    have hpoly : POLY.getLsbD 1 = true ∧ POLY.getLsbD 2 = true ∧ ∀ i < 8, 2 < i → POLY.getLsbD i = false := by decide
    simp only [crcBit_getLsbD_succ, Nat.reduceAdd, Nat.reduceLT, hpoly, Bool.and_true, Bool.and_false, Bool.xor_false, and_self]

theorem crcBit_xor (a b : Byte) : crcBit (a ^^^ b) = crcBit a ^^^ crcBit b := by
  refine BitVec.eq_of_getLsbD_eq fun i _ => ?_
  simp only [crcBit_getLsbD, BitVec.shiftLeft_xor_distrib, BitVec.getLsbD_xor, Bool.and_xor_distrib_right, Bool.xor_assoc,
    Bool.xor_left_comm]

/-- No bit is lost: bit 7 comes back at bit 0, and once it is known the bits of `POLY` cancel from the others. -/
theorem crcBit_injective : Function.Injective crcBit := by
  intro a b h
  have htop : a.getLsbD 7 = b.getLsbD 7 := by rw [← crcBit_getLsbD_zero, h, crcBit_getLsbD_zero]
  refine BitVec.eq_of_getLsbD_eq fun i hi => ?_
  obtain rfl | hi7 : i = 7 ∨ i + 1 < 8 := by omega
  · exact htop
  · have hbit := congrArg (·.getLsbD (i + 1)) h
    simpa only [crcBit_getLsbD_succ _ hi7, htop, Bool.xor_left_inj] using hbit

/-! ### The byte update (R132) -/

theorem crcBits_xor (n : Nat) (a b : Byte) : crcBits n (a ^^^ b) = crcBits n a ^^^ crcBits n b := by
  induction n generalizing a b with
  | zero => rfl
  | succ n ih => rw [crcBits, crcBit_xor, ih]; rfl

theorem crcBits_injective (n : Nat) : Function.Injective (crcBits n) := by
  induction n with
  | zero => exact Function.injective_id
  | succ n ih => exact ih.comp crcBit_injective

theorem crcByte_xor (c d a b : Byte) : crcByte (c ^^^ d) (a ^^^ b) = crcByte c a ^^^ crcByte d b := by
  rw [crcByte, crcByte, crcByte, ← crcBits_xor]
  congr 1
  ac_rfl

/-- The table form (R138): the update depends only on the XOR of the running value and the byte. -/
theorem crcByte_eq_table (c b : Byte) : crcByte c b = crcByte 0x00 (c ^^^ b) :=
  congrArg (crcBits 8) BitVec.zero_xor.symm

theorem crcByte_inj_left {c d b : Byte} : crcByte c b = crcByte d b ↔ c = d :=
  (crcBits_injective 8).eq_iff.trans (BitVec.xor_left_inj b)

theorem crcByte_inj_right {c a b : Byte} : crcByte c a = crcByte c b ↔ a = b :=
  (crcBits_injective 8).eq_iff.trans (BitVec.xor_right_inj c)

/-! ### The running value (R139) -/

theorem crcFold_eq_foldl (c : Byte) (s : List Byte) : crcFold c s = s.foldl crcByte c := by
  induction s generalizing c with
  | nil => rfl
  | cons b s ih => exact ih (crcByte c b)

theorem crcFold_append (c : Byte) (a b : List Byte) : crcFold c (a ++ b) = crcFold (crcFold c a) b := by
  simp only [crcFold_eq_foldl, List.foldl_append]

theorem crc8_append (a b : List Byte) : crc8 (a ++ b) = crcFold (crc8 a) b := crcFold_append CRC_INIT a b

theorem crcFold_xor {a b : List Byte} (h : a.length = b.length) (c d : Byte) :
    crcFold (c ^^^ d) (List.zipWith (· ^^^ ·) a b) = crcFold c a ^^^ crcFold d b := by
  induction a generalizing b c d with
  | nil => cases List.length_eq_zero_iff.mp h.symm; rfl
  | cons x a ih =>
    cases b with
    | nil => cases h
    | cons y b =>
      rw [List.zipWith_cons_cons, crcFold, crcByte_xor]
      exact ih (Nat.succ.inj h) _ _

theorem crcFold_inj {c d : Byte} {s : List Byte} : crcFold c s = crcFold d s ↔ c = d := by
  induction s generalizing c d with
  | nil => rfl
  | cons b s ih => exact ih.trans crcByte_inj_left

/-- The zero register stays zero under zero bytes, so they do not count (R135). -/
theorem crc8_replicate_zero (n : Nat) : crc8 (List.replicate n 0x00) = 0x00 := by
  induction n with
  | zero => rfl
  | succ n ih => exact ih

/-- Replacing one byte is always seen: the updates before it agree, its own tells the bytes apart, and those after it keep the difference. -/
theorem crc8_replace_byte {pre post : List Byte} {a b : Byte} :
    crc8 (pre ++ [a] ++ post) = crc8 (pre ++ [b] ++ post) ↔ a = b := by
  rw [crc8_append _ post, crc8_append _ post, crcFold_inj, crc8_append, crc8_append]
  exact crcByte_inj_right

/-! ### The statements -/

/-- Settles O7: the fold over a last byte is one byte update. -/
theorem crc8FoldsTheByteUpdate : Obligations.Crc8FoldsTheByteUpdate :=
  ⟨rfl, fun s b => crc8_append s [b], fun _ _ => rfl⟩

/-- Settles O8: the fold continues over the second part, and the zeros leave its initial value. -/
theorem crcAppendLaw : Obligations.CrcAppendLaw := by
  refine ⟨fun a b => ?append, fun n b => ?zeros⟩
  case append =>
    have htable : crcByte = fun c x => crcByte 0x00 (c ^^^ x) := funext₂ crcByte_eq_table
    rw [crc8_append, crcFold_eq_foldl, ← htable]
  case zeros => rw [crc8_append, crc8_replicate_zero]; rfl

/-- Settles O9: both sums start from `CRC_INIT`, which is zero and so its own XOR. -/
theorem crcIsLinear : Obligations.CrcIsLinear := fun _ _ h => crcFold_xor h CRC_INIT CRC_INIT

/-- Settles O10: equal checksums would make the flipped byte equal to `b`, but the two differ at bit `k`. -/
theorem singleBitFlipChangesCrc : Obligations.SingleBitFlipChangesCrc := by
  intro pre post b k hk h
  have hflip : b ^^^ (1#8 <<< k) = b := crc8_replace_byte.mp h
  have hbit := congrArg (·.getLsbD k) hflip
  simp [hk] at hbit

/-- Settles O12, by the command's definition. -/
theorem crc8CommandResult : Obligations.Crc8CommandResult := fun _ => rfl

end Sys2Proof.Machine

/-! The encode commands (41_encode.md R152 to R157): what the transport and the operand check make of them, and that every frame the block hands over is well formed. -/

namespace Sys2Proof.Machine

/-! ### A frame that `Emit` builds is well formed (30_encoding.md R98) -/

theorem length_frame (tag : Byte) (p : List Byte) : (frame tag p).length = p.length + OVERHEAD := by
  simp [frame, headerBytes, Nat.add_assoc]

/-- The length field of a frame does not wrap (R92, R152). -/
theorem toNat_lengthField {p : List Byte} (hp : p.length ≤ PAYLOAD_MAX) :
    (BitVec.ofNat 16 (p.length + OVERHEAD)).toNat = p.length + OVERHEAD := by
  rw [BitVec.toNat_ofNat]
  change p.length ≤ 65528 at hp
  exact Nat.mod_eq_of_lt (show p.length + 7 < 2 ^ 16 by omega)

theorem frame_wellFormed (tag : Byte) {p : List Byte} (hp : p.length ≤ PAYLOAD_MAX) : FrameWellFormed (frame tag p) := by
  have hlen := length_frame tag p
  -- the crc and the end marker, seen from what stands before them
  obtain ⟨body, hbody⟩ : ∃ body, headerBytes (BitVec.ofNat 16 (p.length + OVERHEAD)) VERSION tag ++ p = body := ⟨_, rfl⟩
  have hframe : frame tag p = body ++ [crc8 (body ++ [0x00, END]), END] := by rw [← hbody]; rfl
  constructor
  case atLeast7 => exact hlen ▸ Nat.le_add_left _ _
  case start | version => rfl
  case length => rw [hlen, ← toNat_lengthField hp]; exact congrArg _ (ofBytes_hiByte_loByte _)
  case crc | last => simp [hframe]

/-! ### The frames that the block offers (R157) -/

theorem length_payload_le {s : State} (hl : lenOk s.len = true) : (s.payload s.len).length ≤ PAYLOAD_MAX :=
  (Memory.length_readRange _ _ _ _).trans_le (plenOf_le s.len hl)

theorem length_operand_le {s : State} (hfit : s.operandFits = true) : s.operand.length ≤ PAYLOAD_MAX :=
  (Memory.length_readRange _ _ _ _).trans_le (of_decide_eq_true hfit)

theorem replyFrame_wellFormed {s : State} {f : List Byte} (hl : lenOk s.len = true) (h : s.replyFrame = some f) :
    FrameWellFormed f := by
  unfold State.replyFrame at h
  repeat' split at h
  all_goals cases h
  case isFalse.isFalse.isFalse.isFalse.isTrue => exact frame_wellFormed _ (length_payload_le hl)
  all_goals exact frame_wellFormed _ (by simp)

theorem finalFrame_wellFormed {s : State} {f : List Byte} (h : s.finalFrame = some f) : FrameWellFormed f := by
  unfold State.finalFrame at h
  split at h
  case h_1 | h_2 =>
    obtain ⟨hfit, h⟩ := Option.ite_none_right_eq_some.mp h
    cases h
    exact frame_wellFormed _ (length_operand_le hfit)
  case h_3 | h_4 | h_5 => cases h; exact frame_wellFormed _ (by simp)
  case h_6 =>
    obtain ⟨hd, h⟩ := Option.ite_none_right_eq_some.mp h
    exact replyFrame_wellFormed (Bool.and_eq_true_iff.mp hd).2 h
  all_goals cases h

theorem txOffer_wellFormed {s : State} {f : List Byte} (h : s.txOffer = some f) : FrameWellFormed f := by
  unfold State.txOffer at h
  split at h
  case isTrue => cases h
  split at h
  case h_1 => cases h; exact frame_wellFormed _ (by simp)
  case h_2 => exact finalFrame_wellFormed (Option.ite_none_left_eq_some.mp h).2

/-- CODEC appends nothing but the frame its port offers (R65). -/
theorem txh_wellFormed_of_codecTurn {s t : State} (hs : ∀ f ∈ s.txh, FrameWellFormed f) (h : codecTurn s = .next t) :
    ∀ f ∈ t.txh, FrameWellFormed f := by
  obtain hth | ⟨_, f, hf, hth⟩ := sendsOffer_of_codecTurn h <;> rw [hth]
  · exact hs
  · exact List.forall_mem_append.mpr ⟨hs, List.forall_mem_singleton.mpr (txOffer_wellFormed hf)⟩

/-- Settles O50: a turn of CODEC appends at most the frame offered, and no other agent's turn reaches `txh`. -/
theorem everyFrameSentIsWellFormed : Obligations.EveryFrameSentIsWellFormed := by
  intro s t hs h
  obtain ⟨_, e⟩ | ⟨u, rest, _, e⟩ := step_cases s <;> rw [e] at h
  · exact txh_wellFormed_of_codecTurn hs h
  by_cases hu : u = .codec
  · subst hu
    exact txh_wellFormed_of_codecTurn (s := { s with sched := rest }) hs h
  · rw [(takeTurn_streams hu h).2]
    exact hs

/-! ### The transport and the operand check (R152, R154, R238) -/

/-- Settles O15: each row of `encodeRows` is `emitAndFinish`, whose hand-over follows the transport's answer. -/
theorem encodeCommandsFailOrHoldWithTheTransport : Obligations.EncodeCommandsFailOrHoldWithTheTransport := by
  intro s i tag p hd hfit hi
  rw [exec_of_mem_encodeRows hfit hi, State.emitAndFinish_of_unsent hd]
  refine ⟨fun he => ?fail, fun he => ?hold⟩
  case fail => rw [State.handOver_of_fail he]; rfl
  case hold => rw [State.handOver_of_hold he]

/-- An operand that does not fit ends the command (R152). -/
theorem State.emitOperand_of_not_fits {s : State} (hfit : PAYLOAD_MAX < s.tlen.toNat) (tag : Byte) :
    s.emitOperand tag = s.finish .rejected :=
  if_neg (fun h => not_le.mpr hfit (of_decide_eq_true h))

/-- Settles O16: both commands begin with the operand check. -/
theorem tooLongOperandIsRejected : Obligations.TooLongOperandIsRejected := by
  intro s i hlen hi
  obtain rfl | rfl : i = .encData ∨ i = .encEcho := by simpa using hi
  all_goals exact congrArg Host.Outcome.next (State.emitOperand_of_not_fits hlen _)

end Sys2Proof.Machine

/-! The run of a `DECODE` over a clean frame (42_decode.md R171 to R185), undisturbed by the other agents: any garbage, the header, the payload, the crc and the end marker, a byte in each step. -/

namespace Sys2Proof.Machine

/-! ### Runs -/

/-- `t` comes after `s` by steps that all answer a next state. -/
def State.Reaches : State → State → Prop := Relation.ReflTransGen fun s t => step s = .next t

theorem run_succ {s t : State} (h : step s = .next t) (n : Nat) :
    Host.Core.run Sys2Proof.core (n + 1) s = Host.Core.run Sys2Proof.core n t := by
  change Sys2Proof.core.step s = _ at h
  simp only [Host.Core.run, h]

theorem State.Reaches.exists_run {s t : State} (h : s.Reaches t) : ∃ n, Host.Core.run Sys2Proof.core n s = .next t := by
  induction h using Relation.ReflTransGen.head_induction_on with
  | refl => exact ⟨0, rfl⟩
  | head hstep _ ih =>
    obtain ⟨n, hn⟩ := ih
    exact ⟨n + 1, (run_succ hstep n).trans hn⟩

/-! ### The steps of an undisturbed `DECODE` -/

/-- A `DECODE` runs, CODEC's turn throughout, with no fault set and no `ack` due. A clean byte writes none of the five registers, so the proof for a state serves, by computation, for the states after it. -/
def State.Undisturbed (s : State) : Prop :=
  s.rst = false ∧ s.sched = [] ∧ s.op = .decode ∧ s.ackPend = none ∧ s.rxFault = false

theorem step_of_undisturbed {s : State} (h : s.Undisturbed) : step s = exec .decode s := by
  obtain ⟨hrst, hsched, hop, _, _⟩ := h
  rw [step_of_nil hsched, codecTurn_decode hrst hop]

/-- The step on a byte that is available is the move it calls for: the converse of `decodeMove_of_exec`. -/
theorem step_of_byteMove {s t : State} {b : Byte} {q : List Byte} (h : s.Undisturbed) (hq : s.rxq = b :: q)
    (hm : ByteMove b { s with rxq := q } t) : step s = .next t := by
  rw [step_of_undisturbed h]
  obtain ⟨_, _, _, hack, hf⟩ := h
  have read := State.rxRead_byte hq hf
  simp only [exec, execDecode, hack]
  cases hm with
  | start hs hb | lengthHigh hs hb | version hs hb | crc hs hb | ending hs hb =>
    change s.rxState = _ at hs
    simp only [hs, State.seekStart, State.readLength, State.readVersion, State.readCrc, State.readEnd, read]
    exact congrArg _ (if_pos hb)
  | drop hs hb | lengthLow hs hb | versionFault hs hb | crcFault hs hb | endingFault hs hb =>
    change s.rxState = _ at hs
    simp only [hs, State.seekStart, State.readLength, State.readVersion, State.readCrc, State.readEnd, read]
    exact congrArg _ (if_neg hb)
  | type hs =>
    change s.rxState = _ at hs
    simp only [hs, State.readType, read]
  | payload hs hl hc =>
    change s.rxState = _ at hs
    simp only [hs, State.readPayload, read]
    exact congrArg _ ((if_pos hl).trans (if_pos hc))

/-- The validated payload is whole (R178, R179). -/
theorem step_of_payloadEnd {s : State} (h : s.Undisturbed) (hs : s.rxState = .readPayload) (hl : lenOk s.len = true)
    (hc : ¬ s.cnt.toNat < (plenOf s.len).toNat) : step s = .next { s with rxState := .readCrc } := by
  rw [step_of_undisturbed h]
  obtain ⟨_, _, _, hack, _⟩ := h
  simp only [exec, execDecode, hack, hs, State.readPayload, hl, hc, if_true, if_false]

theorem reaches_of_byteMove {s t u : State} {b : Byte} {q : List Byte} (h : s.Undisturbed) (hq : s.rxq = b :: q)
    (hm : ByteMove b { s with rxq := q } t) (ht : t.Reaches u) : s.Reaches u :=
  .head (step_of_byteMove h hq hm) ht

/-! ### Garbage (R172) -/

/-- `s` after `SEEK_START` has dropped the bytes `g`, with `q` left. -/
def State.dropped (g q : List Byte) (s : State) : State :=
  { s with rxq := q, discard := s.discard + g.length, flags := if g = [] then s.flags else s.flags ||| fRESYNC }

theorem State.dropped_nil {q : List Byte} {s : State} (hq : s.rxq = q) : s.dropped [] q = s := by
  subst hq
  rfl

theorem State.dropped_cons (b : Byte) (g q : List Byte) (s : State) :
    State.dropped g q { s.setFlag fRESYNC with rxq := g ++ q, discard := s.discard + 1 } = s.dropped (b :: g) q := by
  simp [State.dropped, State.setFlag, BitVec.or_assoc, Nat.add_assoc, Nat.add_comm 1]

theorem reaches_dropped {s : State} {g q : List Byte} (h : s.Undisturbed) (hs : s.rxState = .seekStart) (hg : START ∉ g)
    (hq : s.rxq = g ++ q) : s.Reaches (s.dropped g q) := by
  induction g generalizing s with
  | nil => rw [State.dropped_nil (q := q) hq]; exact .refl
  | cons b g ih =>
    obtain ⟨hb, hg⟩ := List.ne_and_not_mem_of_not_mem_cons hg
    refine reaches_of_byteMove h hq (.drop hs hb.symm) ?_
    rw [← State.dropped_cons]
    exact ih h hs hg rfl

/-! ### The header (R174, R175, R177) -/

theorem reaches_header {s : State} {len : Half} {tag : Byte} {q : List Byte} (h : s.Undisturbed) (hs : s.rxState = .seekStart)
    (hq : s.rxq = headerBytes len VERSION tag ++ q) :
    s.Reaches { s with rxq := q, rxState := .readPayload, cnt := 0, len := len, ver := VERSION, typ := tag } := by
  have hlen : ofBytes (hiByte (ofBytes (hiByte len) 0)) (loByte len) = len := by rw [hiByte_ofBytes, ofBytes_hiByte_loByte]
  refine reaches_of_byteMove h hq (.start hs rfl) ?_
  refine reaches_of_byteMove h rfl (.lengthHigh rfl rfl) ?_
  refine reaches_of_byteMove h rfl (.lengthLow rfl (show (1 : Half) ≠ 0 by decide)) ?_
  refine reaches_of_byteMove h rfl (.version rfl rfl) ?_
  refine reaches_of_byteMove h rfl (.type rfl) ?_
  simp only [hlen]
  exact .refl

/-! ### The payload (R179) -/

/-- The bytes `p` written from address `a` on. -/
def Memory.writeAll : Memory → Nat → List Byte → Memory
  | m, _, [] => m
  | m, a, b :: p => (m.write a b).writeAll (a + 1) p

theorem Memory.read_writeAll_of_lt (free : Nat → Nat → Byte) (m : Memory) {a b : Nat} (p : List Byte) (h : a < b) :
    (m.writeAll b p).read free a = m.read free a := by
  induction p generalizing m b with
  | nil => rfl
  | cons v p ih => rw [Memory.writeAll, ih _ (by omega), Memory.read_write, if_neg (by omega)]

/-- What was written is read back. -/
theorem Memory.readRange_writeAll (free : Nat → Nat → Byte) (m : Memory) (a : Nat) (p : List Byte) :
    (m.writeAll a p).readRange free a p.length = p := by
  induction p generalizing m a with
  | nil => rfl
  | cons v p ih =>
    rw [Memory.writeAll, List.length_cons, Memory.readRange, ih, Memory.read_writeAll_of_lt _ _ _ (Nat.lt_succ_self a),
      Memory.read_write, if_pos rfl]

theorem reaches_payload {s : State} {p q : List Byte} (h : s.Undisturbed) (hs : s.rxState = .readPayload)
    (hl : lenOk s.len = true) (hp : s.cnt.toNat + p.length = (plenOf s.len).toNat) (hq : s.rxq = p ++ q) :
    s.Reaches { s with rxq := q, rxState := .readCrc, cnt := plenOf s.len, pbuf := s.pbuf.writeAll s.cnt.toNat p } := by
  induction p generalizing s with
  | nil =>
    have hcnt : s.cnt = plenOf s.len := BitVec.eq_of_toNat_eq hp
    rw [← hcnt, ← List.nil_append q, ← hq]
    exact .single (step_of_payloadEnd h hs hl (by rw [hcnt]; exact lt_irrefl _))
  | cons b p ih =>
    rw [List.length_cons] at hp
    have hlt : (plenOf s.len).toNat < 2 ^ 16 := (plenOf s.len).isLt
    have hcnt : (s.cnt + 1).toNat = s.cnt.toNat + 1 := BitVec.toNat_add_of_lt (show s.cnt.toNat + 1 < 2 ^ 16 by omega)
    refine reaches_of_byteMove h hq (.payload hs hl (show s.cnt.toNat < (plenOf s.len).toNat by omega)) ?_
    rw [Memory.writeAll, ← hcnt]
    exact ih h hs hl (show (s.cnt + 1).toNat + p.length = (plenOf s.len).toNat by omega) rfl

/-! ### The crc and the end marker (R181, R183) -/

theorem reaches_dispatch {s : State} {c : Byte} {q : List Byte} (h : s.Undisturbed) (hs : s.rxState = .readCrc)
    (hc : s.expectedCrc = c) (hq : s.rxq = c :: END :: q) :
    s.Reaches { s with rxq := q, rxState := .dispatch, rcrc := c, expc := c, crcw := c, endb := END } := by
  replace hc : State.expectedCrc { s with rxq := END :: q } = c := hc
  refine reaches_of_byteMove h hq (.crc hs hc.symm) ?_
  refine reaches_of_byteMove h rfl (.ending rfl rfl) ?_
  simp only [hc]
  exact .refl

/-! ### A whole frame -/

theorem lenOk_lengthField {p : List Byte} (hp : p.length ≤ PAYLOAD_MAX) : lenOk (BitVec.ofNat 16 (p.length + OVERHEAD)) = true := by
  rw [lenOk_iff, toNat_lengthField hp]
  exact Nat.le_add_left _ _

theorem toNat_plenOf_lengthField {p : List Byte} (hp : p.length ≤ PAYLOAD_MAX) :
    (plenOf (BitVec.ofNat 16 (p.length + OVERHEAD))).toNat = p.length := by
  rw [plenOf_toNat (lenOk_lengthField hp), toNat_lengthField hp, Nat.add_sub_cancel]

/-- `s` in `DISPATCH` after garbage `g` and the frame of `tag` and `p`, with `q` left in `rxq`. -/
def State.received (g : List Byte) (tag : Byte) (p q : List Byte) (s : State) : State :=
  { s.dropped g q with
    rxState := .dispatch, len := BitVec.ofNat 16 (p.length + OVERHEAD), ver := VERSION, typ := tag,
    cnt := plenOf (BitVec.ofNat 16 (p.length + OVERHEAD)), pbuf := s.pbuf.writeAll 0 p,
    rcrc := frameCrc tag p, expc := frameCrc tag p, crcw := frameCrc tag p, endb := END }

/-- In a state whose `PBUF` has taken the payload from index 0 on, the payload is what was sent. -/
theorem State.payload_of_pbuf {s : State} {m : Memory} {p : List Byte} (hp : p.length ≤ PAYLOAD_MAX) (hs : s.pbuf = m.writeAll 0 p) :
    s.payload (BitVec.ofNat 16 (p.length + OVERHEAD)) = p := by
  rw [State.payload, State.pbufRange, toNat_plenOf_lengthField hp, hs, Memory.readRange_writeAll]

/-- From an accepted `DECODE`, garbage without a start byte and then a frame of any tag lead to `DISPATCH`. -/
theorem reaches_received {s : State} {g p q : List Byte} {tag : Byte} (h : s.Undisturbed) (hs : s.rxState = .seekStart)
    (hg : START ∉ g) (hp : p.length ≤ PAYLOAD_MAX) (hq : s.rxq = g ++ frame tag p ++ q) : s.Reaches (s.received g tag p q) := by
  have hframe : frame tag p ++ q = headerBytes (BitVec.ofNat 16 (p.length + OVERHEAD)) VERSION tag ++ (p ++ frameCrc tag p :: END :: q) := by
    simp [frame]
  rw [List.append_assoc, hframe] at hq
  have hcnt : (0 : Half).toNat + p.length = _ := (Nat.zero_add _).trans (toNat_plenOf_lengthField hp).symm
  refine .trans (reaches_dropped h hs hg hq) ?_
  refine .trans (reaches_header h hs rfl) ?_
  refine .trans (reaches_payload h rfl (lenOk_lengthField hp) hcnt rfl) ?_
  exact reaches_dispatch h rfl (by rw [State.expectedCrc, State.payload_of_pbuf hp rfl]; rfl) rfl

/-! ### From block to block (R157, R205) -/

/-- The sender's half: the frame that an accepted `ENC_DATA` appends (R158). -/
theorem eq_frame_of_exec_encData {a a' : State} {f : List Byte} (he : a.txEnv = .accept) (hd : a.txDone = false)
    (hfit : a.tlen.toNat ≤ PAYLOAD_MAX) (h : exec .encData a = .next a') (hf : a'.txh = a.txh ++ [f]) :
    f = frame a.cfg.tagData a.operand := by
  obtain ⟨hsend, _⟩ := encodeCommandsSendOneFrame a .encData a.cfg.tagData a.operand (fun _ => hfit) (by simp)
  cases (hsend hd he).symm.trans h
  simpa using hf.symm

/-- The receiver's last step (R205). -/
theorem step_of_dispatch_data {s : State} (h : s.Undisturbed) (hs : s.rxState = .dispatch) (hl : lenOk s.len = true)
    (ht : s.typ = s.cfg.tagData) : step s = .next (State.finish .data { s with resTag := s.cfg.tagData, resPlen := plenOf s.len }) := by
  rw [step_of_undisturbed h]
  obtain ⟨_, _, _, hack, _⟩ := h
  simp only [exec, execDecode, hack, hs]
  exact (if_pos ht).trans (State.enterDispatch_of_le (lenOk_iff.mp hl) _ s _)

/-- Settles O59: the sender's frame takes the receiver to `DISPATCH` with the operand in `PBUF`, and `RX_DATA` reports it. -/
theorem encodedDataIsDecodedUnchanged : Obligations.EncodedDataIsDecodedUnchanged := by
  intro a a' s f g rest he hd hfit hexec hf hcfg hrst hsched hop hs hack _ hflags hdiscard hfault hg hq
  have hp : a.operand.length ≤ PAYLOAD_MAX := (Memory.length_readRange _ _ _ _).trans_le hfit
  rw [eq_frame_of_exec_encData he hd hfit hexec hf, hcfg] at hq
  have hu : s.Undisturbed := ⟨hrst, hsched, hop, hack, hfault⟩
  have hlast := step_of_dispatch_data (s := s.received g s.cfg.tagData a.operand rest) hu rfl (lenOk_lengthField hp) rfl
  obtain ⟨n, hn⟩ := State.Reaches.exists_run ((reaches_received hu hs hg hp hq).tail hlast)
  refine ⟨n, _, hn, rfl, rfl, rfl, ?payload, rfl, ?discard, ?flags, rfl, rfl⟩
  case payload => exact State.payload_of_pbuf (s := s.received g s.cfg.tagData a.operand rest) hp rfl
  case discard => exact (congrArg (· + g.length) hdiscard).trans (Nat.zero_add _)
  case flags =>
    change (if g = [] then s.flags else s.flags ||| fRESYNC) = _
    rw [hflags]
    rfl

end Sys2Proof.Machine

/-! The steps of `DECODE`, one state of the sequencer after another (42_decode.md R172 to R186): what each does with the byte it takes, the fault `ack` it sends, and the bytes consumed. -/

namespace Sys2Proof.Machine

/-! ### What a state of the sequencer runs -/

/-- The states between `IDLE` and `DISPATCH`, each with what `DECODE` runs in it while no `ack` is due (R171). -/
def RxState.operations : List (RxState × (State → State)) :=
  [(.seekStart, State.seekStart), (.readLength, State.readLength), (.readVersion, State.readVersion), (.readType, State.readType),
   (.readPayload, State.readPayload), (.readCrc, State.readCrc), (.readEnd, State.readEnd)]

theorem exec_decode_operation {s : State} {st : RxState} (f : State → State) (hs : s.rxState = st) (ha : s.ackPend = none)
    (hf : (st, f) ∈ RxState.operations := by simp [RxState.operations]) : exec .decode s = .next (f s) := by
  simp only [RxState.operations, List.mem_cons, Prod.mk.injEq, List.not_mem_nil, or_false] at hf
  obtain ⟨rfl, rfl⟩ | ⟨rfl, rfl⟩ | ⟨rfl, rfl⟩ | ⟨rfl, rfl⟩ | ⟨rfl, rfl⟩ | ⟨rfl, rfl⟩ | ⟨rfl, rfl⟩ := hf
  all_goals simp only [exec, execDecode, ha, hs]

/-- A fault `ack` that is due goes out as one frame, and only then does the sequencer move on (R79). -/
theorem exec_decode_of_ackDue {s : State} {c : Byte} (hc : s.ackPend = some c) (he : s.txEnv = .accept) :
    exec .decode s = .next { s with crcw := frameCrc s.cfg.tagAck [c], txh := s.txh ++ [frame s.cfg.tagAck [c]],
                                    ackPend := none, rxState := s.rxState.afterAck } := by
  simp only [exec, execDecode, hc, State.sendPendingAck, State.sendAck, State.emit, State.txWrite, he]

/-! ### State by state (R172 to R184) -/

/-- Settles O18: `SEEK_START` compares the byte it takes with the start marker. -/
theorem seekStartDropsUntilTheStartByte : Obligations.SeekStartDropsUntilTheStartByte := by
  intro s b rest hs ha hq hf
  rw [exec_decode_operation State.seekStart hs ha, State.seekStart, State.rxRead_byte hq hf]
  exact ⟨fun hb => congrArg _ (if_neg hb), fun hb => congrArg _ (if_pos hb)⟩

/-- In `READ_LENGTH` the count tells the high byte, taken first, from the low one (R174). -/
theorem exec_decode_readLength {s : State} {b : Byte} {q : List Byte} (hs : s.rxState = .readLength) (ha : s.ackPend = none)
    (hq : s.rxq = b :: q) (hf : s.rxFault = false) :
    (s.cnt = 0 → exec .decode s = .next { s with rxq := q, len := ofBytes b 0, cnt := 1 }) ∧
    (s.cnt ≠ 0 → exec .decode s = .next
      { s with rxq := q, len := ofBytes (hiByte s.len) b, cnt := s.cnt + 1, rxState := .readVersion }) := by
  rw [exec_decode_operation State.readLength hs ha, State.readLength, State.rxRead_byte hq hf]
  exact ⟨fun hc => congrArg _ (if_pos hc), fun hc => congrArg _ (if_neg hc)⟩

/-- Settles O19, by a step for each of the two bytes. -/
theorem readLengthTakesTwoBytes : Obligations.ReadLengthTakesTwoBytes := by
  intro s b0 b1 rest hs ha hc hq hf
  obtain ⟨high, _⟩ := exec_decode_readLength hs ha hq hf
  obtain ⟨_, low⟩ := exec_decode_readLength (s := { s with rxq := b1 :: rest, len := ofBytes b0 0, cnt := 1 }) hs ha rfl hf
  refine ⟨ofBytes_toNat b0 b1, _, high hc, (low (show (1 : Half) ≠ 0 by decide)).trans ?_⟩
  rw [hiByte_ofBytes]
  rfl

/-- Settles O20: `READ_VERSION` compares the byte it takes with the version, and the `ack` of a mismatch comes before `READ_TYPE`. -/
theorem readVersionFlagsAndAcknowledges : Obligations.ReadVersionFlagsAndAcknowledges := by
  refine ⟨fun s b rest hs ha hq hf => ?byte, fun s hs hc he => ?ack, by decide +kernel⟩
  case byte =>
    rw [exec_decode_operation State.readVersion hs ha, State.readVersion, State.rxRead_byte hq hf]
    exact ⟨fun hb => congrArg _ (if_pos hb), fun hb => congrArg _ (if_neg hb)⟩
  case ack => rw [exec_decode_of_ackDue hc he, hs, RxState.afterAck]

/-- Settles O21: `READ_TYPE` asks nothing of the byte it takes. -/
theorem readTypeKeepsTheByte : Obligations.ReadTypeKeepsTheByte := by
  intro s b rest hs ha hq hf
  rw [exec_decode_operation State.readType hs ha, State.readType, State.rxRead_byte hq hf]

/-- Settles O22: the length validator answers before any byte is read. -/
theorem malformedLengthEndsTheDecode : Obligations.MalformedLengthEndsTheDecode := by
  intro s hs ha hlen
  rw [exec_decode_operation State.readPayload hs ha]
  exact congrArg _ (if_neg fun hl => not_le.mpr hlen (lenOk_iff.mp hl))

/-- Settles O23: below `plen` the byte taken is one write of `PBUF`, and at `plen` the state is left without a byte. -/
theorem readPayloadStoresInOrder : Obligations.ReadPayloadStoresInOrder := by
  refine ⟨fun s b rest hs ha hq hf hlen hc => ?byte, fun s hs ha hlen hc => ?whole⟩
  all_goals
    have hl : lenOk s.len = true := lenOk_iff.mpr hlen
    rw [exec_decode_operation State.readPayload hs ha, State.readPayload, if_pos hl, plenOf_toNat hl]
  case byte =>
    have hcnt : (s.cnt + 1).toNat = s.cnt.toNat + 1 := by bv_omega
    have written (a : Nat) := Memory.read_write Config.freePbuf s.pbuf s.cnt.toNat a b
    rw [if_pos hc, State.rxRead_byte hq hf]
    exact ⟨_, rfl, hcnt, (written _).trans (if_pos rfl), fun a hne => (written a).trans (if_neg hne), fun _ => rfl, rfl⟩
  case whole => rw [if_neg hc.not_lt]

/-- Settles O24: `READ_CRC` compares the byte it takes with the crc of what was received, and the `ack` of a mismatch comes before `READ_END`. -/
theorem readCrcComparesAndAcknowledges : Obligations.ReadCrcComparesAndAcknowledges := by
  refine ⟨fun _ => rfl, fun s b rest hs ha hq hf => ?byte, fun s hs hc he => ?ack, by decide +kernel⟩
  case byte =>
    rw [exec_decode_operation State.readCrc hs ha, State.readCrc, State.rxRead_byte hq hf]
    exact ⟨fun hb => congrArg _ (if_pos hb), fun hb => congrArg _ (if_neg hb)⟩
  case ack => rw [exec_decode_of_ackDue hc he, hs, RxState.afterAck]

/-- Settles O25: `READ_END` compares the byte it takes with the end marker, and the `ack` of a mismatch comes before `DISPATCH`. -/
theorem readEndConsumesAndAcknowledges : Obligations.ReadEndConsumesAndAcknowledges := by
  refine ⟨fun s b rest hs ha hq hf => ?byte, fun s hs hc he => ?ack, by decide +kernel⟩
  case byte =>
    rw [exec_decode_operation State.readEnd hs ha, State.readEnd, State.rxRead_byte hq hf]
    exact ⟨fun hb => congrArg _ (if_pos hb), fun hb => congrArg _ (if_neg hb)⟩
  case ack => rw [exec_decode_of_ackDue hc he, hs, RxState.afterAck]

/-! ### The bytes consumed (R186) -/

/-- Outside the three states that find a fault no `ack` is due. -/
theorem Inv.ackPend_eq_none {s : State} (h : Inv s) (hs : s.rxState ∉ [.readVersion, .readCrc, .readEnd]) : s.ackPend = none := by
  refine Option.eq_none_iff_forall_ne_some.mpr fun c hp => hs ?_
  obtain ⟨hs, _⟩ | ⟨hs, _⟩ | ⟨hs, _⟩ := h.ackDue c hp <;> simp [hs]

/-- A byte taken is counted once: as garbage, by the place of the sequencer, or as the cause of the `ack` that is due. -/
theorem ByteMove.consumed {b : Byte} {s t : State} (hm : ByteMove b s t) (h : Inv s) (ha : s.ackPend = none) :
    t.consumed = s.consumed + 1 ∧ t.rxq = s.rxq := by
  cases hm with
  | lengthHigh hs hc => simp [State.consumed, hs, ha, hc, Nat.add_assoc]
  | lengthLow hs hc =>
    have hone : s.cnt.toNat = 1 := by have := h.cntLength hs; bv_omega
    simp [State.consumed, hs, ha, hone, Nat.add_assoc]
  | payload hs _ hlt =>
    have hcnt : (s.cnt + 1).toNat = s.cnt.toNat + 1 := by bv_omega
    exact ⟨by simp only [State.consumed, hs, hcnt, Nat.add_assoc], rfl⟩
  | start hs | drop hs | version hs | versionFault hs | type hs | crc hs | crcFault hs | ending hs | endingFault hs =>
    simp +arith [State.consumed, hs, ha]

theorem State.handOver_consumed (tag : Byte) (p : List Byte) {s : State} (h : (s.handOver tag p).op = .decode) :
    (s.handOver tag p).consumed = s.consumed := by
  obtain ⟨_, e⟩ | ⟨_, e⟩ | ⟨_, e⟩ := State.handOver_cases tag p s <;> rw [e] at h ⊢
  case inr.inl => cases h
  all_goals rfl

theorem DispatchMove.consumed {s t : State} (hm : DispatchMove s t) (ht : t.op = .decode) : t.consumed = s.consumed := by
  cases hm with
  | reply tag p => exact State.handOver_consumed tag p ht
  | unknownAck => exact State.handOver_consumed _ _ ht
  | _ => cases ht

/-- A step that leaves the `DECODE` running moves a byte from `rxq` to those consumed, or touches neither count. -/
theorem DecodeMove.consumed_add_length {s t : State} (hm : DecodeMove s t) (h : Inv s) (ht : t.op = .decode) :
    t.consumed + t.rxq.length = s.consumed + s.rxq.length := by
  cases hm with
  | wait | ackHeld => rfl
  | transport | malformed => cases ht
  | ackSent c hc => obtain ⟨hs, _⟩ | ⟨hs, _⟩ | ⟨hs, _⟩ := h.ackDue c hc <;> simp +arith [State.consumed, hs, hc, RxState.afterAck]
  | begin _ hs => simp [State.consumed, hs]
  | byte b q d _ ha hq hm =>
    obtain ⟨hcons, hrest⟩ := hm.consumed (s := { s with rxq := q, draws := d }) { h with } ha
    rw [hcons, hrest, hq]
    exact Nat.add_right_comm _ _ _
  | payloadEnd ha hs hl hc =>
    have hcnt : s.cnt.toNat = (plenOf s.len).toNat := le_antisymm (h.cntPayload hs hl) (not_lt.mp hc)
    simp [State.consumed, hs, hcnt]
  | dispatch _ _ _ hd =>
    have hm := dispatchMove_of_dispatch hd
    rw [hm.consumed ht, hm.rxq]

/-- Settles O56: each move of `DECODE` keeps the sum, and the invariant ties the place of the sequencer to `len`. -/
theorem bytesConsumedAreAccountedFor : Obligations.BytesConsumedAreAccountedFor := by
  refine ⟨fun s t h ho hr _ hstep ht => ?step, fun s h hs => ?dispatch, fun s h hs hlen => ?malformed⟩
  case step =>
    rw [codecTurn_decode hr ho] at hstep
    exact (decodeMove_of_exec hstep).consumed_add_length h ht
  case dispatch =>
    have hl : lenOk s.len = true := h.lenPast (by rw [hs]; rfl)
    have hplen : 7 + (plenOf s.len).toNat = s.len.toNat := by rw [plenOf_toNat hl, Nat.add_sub_cancel' (lenOk_iff.mp hl)]
    simp [State.consumed, hs, h.ackPend_eq_none, hplen]
  case malformed =>
    have hl : lenOk s.len = false := decide_eq_false (not_le.mpr hlen)
    simp [State.consumed, hs, h.ackPend_eq_none, h.cntMalformed hs hl]

/-! ### A whole frame (R171 to R185) -/

/-- Settles O58, by the run over garbage and a frame. -/
theorem cleanFrameReachesDispatchIntact : Obligations.CleanFrameReachesDispatchIntact := by
  intro s tag g p rest hrst hsched hop hs hack hsent hflags hdiscard hfault hg hp hq
  obtain ⟨n, hn⟩ := (reaches_received ⟨hrst, hsched, hop, hack, hfault⟩ hs hg hp hq).exists_run
  refine ⟨n, _, hn, hop, rfl, hack, rfl, rfl, toNat_lengthField hp, ?payload, ?discard, ?flags, rfl, rfl, hsent, rfl, rfl, hfault, hrst, hsched⟩
  case payload => exact State.payload_of_pbuf (s := s.received g tag p rest) hp rfl
  case discard => simp [State.received, State.dropped, hdiscard]
  case flags => simp [State.received, State.dropped, hflags]

end Sys2Proof.Machine

/-! The dispatch operations on a received frame (43_dispatch.md R200 to R213): what each reports, what the transport makes of a reply, and that neither `FLAGS` nor the version byte is asked. -/

namespace Sys2Proof.Machine

/-! ### The rows that send nothing (R203 to R205, R210) -/

theorem plenOf_eq_ofNat {len : Half} (hlen : OVERHEAD ≤ len.toNat) : plenOf len = BitVec.ofNat 16 (len.toNat - OVERHEAD) := by
  rw [← plenOf_toNat (lenOk_iff.mpr hlen), BitVec.ofNat_toNat, BitVec.setWidth_eq]

theorem plenOf_eq_iff {len n : Half} (hlen : OVERHEAD ≤ len.toNat) : plenOf len = n ↔ len.toNat = n.toNat + OVERHEAD := by
  rw [← BitVec.toNat_inj, plenOf_toNat (lenOk_iff.mpr hlen), Nat.sub_eq_iff_eq_add hlen]

theorem exec_rxData {len : Half} (hlen : OVERHEAD ≤ len.toNat) (ver : Byte) (s : State) :
    exec (.rxData len ver) s = .next (State.finish .data { s with resTag := s.cfg.tagData, resPlen := plenOf len }) := by
  rw [exec, execRxData, State.enterDispatch_of_le hlen]

/-- The three payloads of an `ack` frame: one byte, none, more than one (R203, R204). -/
theorem exec_rxAck {len : Half} (hlen : OVERHEAD ≤ len.toNat) (ver : Byte) (s : State) :
    exec (.rxAck len ver) s = .next
      (if plenOf len = 1 then State.ackReceipt (s.pbufByte 0) { s with resTag := s.cfg.tagAck }
      else if plenOf len = 0 then
        State.finishNoPayload .unknownAck { s.setFlag fACKFORM with resTag := s.cfg.tagAck, resCode := 0 }
      else State.ackReceipt (s.pbufByte 0) { s.setFlag fACKFORM with resTag := s.cfg.tagAck }) := by
  rw [exec, execRxAck, State.enterDispatch_of_le hlen]
  simp only [runAckCode_eq, ← apply_ite Host.Outcome.next]
  rfl

/-- With `TEST_KNOWN` false a test frame is a frame of unknown type (R210). -/
theorem exec_rxTest {len : Half} (hlen : OVERHEAD ≤ len.toNat) (ver : Byte) (s : State) :
    exec (.rxTest len ver) s = if s.cfg.testKnown then .next (State.finishNoPayload .test { s with resTag := s.cfg.tagTest })
      else exec (.rxUnknown len ver s.cfg.tagTest) s := by
  rw [exec_rxUnknown hlen, exec, execRxTest, State.enterDispatch_of_le hlen]

/-- Settles O30: the length field less its overhead is what `RX_DATA` offers. -/
theorem rxDataOffersThePayload : Obligations.RxDataOffersThePayload := by
  intro s len ver hlen
  rw [exec_rxData hlen, plenOf_eq_ofNat hlen]
  rfl

/-- Settles O31: each of the three lengths chooses one branch of `RX_ACK`. -/
theorem rxAckReportsTheCode : Obligations.RxAckReportsTheCode := by
  intro s len ver
  refine ⟨fun hlen => ?one, fun hlen => ?empty, fun hlen => ?more⟩
  all_goals
    have h7 : OVERHEAD ≤ len.toNat := show 7 ≤ len.toNat by omega
    have hone : plenOf len = 1 ↔ len.toNat = 8 := plenOf_eq_iff h7
    have hzero : plenOf len = 0 ↔ len.toNat = 7 := plenOf_eq_iff h7
    rw [exec_rxAck h7]
  case one => rw [if_pos (hone.mpr hlen)]; rfl
  case empty => rw [if_neg (hone.not.mpr (by omega)), if_pos (hzero.mpr hlen)]; rfl
  case more => rw [if_neg (hone.not.mpr (by omega)), if_neg (hzero.not.mpr (by omega))]; rfl

/-- Settles O36: `TEST_KNOWN` chooses the branch of `RX_TEST`. -/
theorem rxTestFollowsTestKnown : Obligations.RxTestFollowsTestKnown := by
  intro s len ver hlen
  rw [exec_rxTest hlen]
  exact ⟨fun hk => if_pos hk, fun hk => if_neg (by rw [hk]; decide)⟩

/-! ### The replies (R206 to R208, R213) -/

/-- Settles O34: each row of `replyRows` is `replyThenFinish` after `RES_TAG` is written, whose hand-over follows the transport's answer. -/
theorem repliesFailOrHoldWithTheTransport : Obligations.RepliesFailOrHoldWithTheTransport := by
  intro s len ver i typ tag p k hlen hd hi
  rw [exec_of_mem_replyRows hlen hi, State.replyThenFinish_of_unsent (s := { s with resTag := typ }) hd]
  exact ⟨fun he => congrArg _ (State.handOver_of_fail (s := { s with resTag := typ }) he tag p),
    fun he => congrArg _ (State.handOver_of_hold (s := { s with resTag := typ }) he tag p)⟩

theorem State.replyThenFinish_of_accept {s : State} (hd : s.txDone = false) (he : s.txEnv = .accept) (tag : Byte) (p : List Byte)
    (k : ResKind) :
    s.replyThenFinish tag p k = { s with crcw := frameCrc tag p, txh := s.txh ++ [frame tag p], txDone := true } := by
  rw [State.replyThenFinish_of_unsent hd, State.handOver_of_accept he]

theorem step_of_dispatch {s : State} (h : s.Undisturbed) (hs : s.rxState = .dispatch) (hlen : OVERHEAD ≤ s.len.toNat) :
    step s = exec (frameInstr s.cfg s.len s.ver s.typ) s := by
  obtain ⟨hrst, hsched, hop, hack, _⟩ := h
  rw [step_of_nil hsched, codecTurn_of_fetch (State.fetch_dispatch hrst hop hs hack hlen)]

theorem step_of_dispatch_echo {s : State} (h : s.Undisturbed) (hs : s.rxState = .dispatch) (hlen : OVERHEAD ≤ s.len.toNat)
    (hc : s.cfg.distinct) (ht : s.typ = s.cfg.tagEcho) :
    step s = .next (State.replyThenFinish s.cfg.tagData (s.payload s.len) .echo { s with resTag := s.cfg.tagEcho }) := by
  have hrow : frameInstr s.cfg s.len s.ver s.typ = .rxEcho s.len s.ver :=
    (frameInstr_eq_iff_typ_eq (i := .rxEcho s.len s.ver) hc hlen (decide_eq_true hlen) rfl).mpr ht
  rw [step_of_dispatch h hs hlen, hrow]
  exact exec_of_mem_replyRows (ver := s.ver) hlen (.tail _ (.tail _ (.head _)))

/-- An echo frame in `DISPATCH` is answered by a data frame, and the step after the answer reports it (R208, R213). -/
theorem reaches_echo {s : State} (h : s.Undisturbed) (hs : s.rxState = .dispatch) (hlen : OVERHEAD ≤ s.len.toNat)
    (hc : s.cfg.distinct) (ht : s.typ = s.cfg.tagEcho) (hd : s.txDone = false) (he : s.txEnv = .accept) {p : List Byte}
    (hp : s.payload s.len = p) :
    s.Reaches (State.finishNoPayload .echo
      { s with resTag := s.cfg.tagEcho, crcw := frameCrc s.cfg.tagData p, txh := s.txh ++ [frame s.cfg.tagData p] }) := by
  subst hp
  have hreply := State.replyThenFinish_of_accept (s := { s with resTag := s.cfg.tagEcho }) hd he s.cfg.tagData (s.payload s.len) .echo
  refine .head (Eq.trans (step_of_dispatch_echo h hs hlen hc ht) (congrArg _ hreply)) (.single ?_)
  exact Eq.trans (step_of_dispatch_echo h hs hlen hc ht) (congrArg _ (State.replyThenFinish_of_sent rfl _ _ _))

/-- Settles O60: the run over a clean frame, then the reply and its result. -/
theorem echoIsAnsweredWithADataFrame : Obligations.EchoIsAnsweredWithADataFrame := by
  intro s p rest hrst hsched hop hs hack hsent hflags _ hfault he hc hp hq
  have hu : s.Undisturbed := ⟨hrst, hsched, hop, hack, hfault⟩
  have hreceived := reaches_received (g := []) hu hs List.not_mem_nil hp hq
  have hanswer := reaches_echo (s := s.received [] s.cfg.tagEcho p rest) hu rfl (lenOk_iff.mp (lenOk_lengthField hp)) hc rfl hsent he
    (State.payload_of_pbuf hp rfl)
  obtain ⟨n, hn⟩ := State.Reaches.exists_run (hreceived.trans hanswer)
  exact ⟨n, _, hn, rfl, rfl, rfl, hflags, rfl, rfl⟩

/-! ### `FLAGS` and the version byte (R106, R211) -/

/-- What an operation answers for each value of `FLAGS` it starts from is one next state, but for `FLAGS`, which gains the same bits. -/
def FlagsBlind (answer : Byte → Host.Outcome State Fault Refusal) : Prop :=
  ∃ (t : State) (added : Byte), ∀ f, answer f = .next { t with flags := f ||| added }

namespace FlagsBlind

theorem of_flags_kept {F : Byte → State} (h : ∀ f, F f = { F 0 with flags := f }) : FlagsBlind fun f => .next (F f) :=
  ⟨F 0, 0#8, fun f => congrArg _ ((h f).trans (by rw [BitVec.or_zero]))⟩

theorem of_flag_set {F : Byte → State} (x : Byte) (h : ∀ f, F f = { F 0 with flags := f ||| x }) :
    FlagsBlind fun f => .next (F f) :=
  ⟨F 0, x, fun f => congrArg _ (h f)⟩

/-- An operation run after a flag is set. -/
theorem setFlag {answer : Byte → Host.Outcome State Fault Refusal} (h : FlagsBlind answer) (x : Byte) :
    FlagsBlind fun f => answer (f ||| x) := by
  obtain ⟨t, added, h⟩ := h
  exact ⟨t, x ||| added, fun f => (h (f ||| x)).trans (by rw [BitVec.or_assoc])⟩

theorem handOver (tag : Byte) (p : List Byte) (s : State) : FlagsBlind fun f => .next (State.handOver tag p { s with flags := f }) := by
  cases s.txEnv with
  | accept =>
    simp only [State.handOver_of_accept]
    exact of_flags_kept fun _ => rfl
  | fail =>
    simp only [State.handOver_of_fail]
    exact of_flag_set fTRANSPORT fun _ => rfl
  | hold =>
    simp only [State.handOver_of_hold]
    exact of_flags_kept fun _ => rfl

theorem replyThenFinish (tag : Byte) (p : List Byte) (k : ResKind) (s : State) :
    FlagsBlind fun f => .next (State.replyThenFinish tag p k { s with flags := f }) := by
  cases s.txDone with
  | true =>
    simp only [State.replyThenFinish_of_sent]
    exact of_flags_kept fun _ => rfl
  | false =>
    simp only [State.replyThenFinish_of_unsent]
    exact handOver tag p { s with txDone := false }

theorem unknownType (s : State) : FlagsBlind fun f => .next (State.unknownType { s with flags := f }) := by
  cases s.txDone with
  | true =>
    simp only [State.unknownType_of_sent]
    exact of_flags_kept fun _ => rfl
  | false =>
    simp only [State.unknownType_of_unsent]
    exact (handOver s.cfg.tagAck [ERR_TYPE] { s with txDone := false }).setFlag fTYPE

theorem rxAck {len : Half} (hlen : OVERHEAD ≤ len.toNat) (ver : Byte) (s : State) :
    FlagsBlind fun f => exec (.rxAck len ver) { s with flags := f } := by
  simp only [exec_rxAck hlen]
  split
  · exact of_flags_kept fun _ => rfl
  split
  · exact of_flag_set fACKFORM fun _ => rfl
  · exact of_flag_set fACKFORM fun _ => rfl

theorem rxUnknown {len : Half} (hlen : OVERHEAD ≤ len.toNat) (ver typ : Byte) (s : State) :
    FlagsBlind fun f => exec (.rxUnknown len ver typ) { s with flags := f } := by
  simp only [exec_rxUnknown hlen]
  exact unknownType { s with resTag := typ }

theorem rxTest {len : Half} (hlen : OVERHEAD ≤ len.toNat) (ver : Byte) (s : State) :
    FlagsBlind fun f => exec (.rxTest len ver) { s with flags := f } := by
  simp only [exec_rxTest hlen]
  split
  · exact of_flags_kept fun _ => rfl
  · exact rxUnknown hlen ver s.cfg.tagTest s

theorem of_mem_replyRows {len : Half} (hlen : OVERHEAD ≤ len.toNat) {ver : Byte} {s : State} {i : Instr} {typ tag : Byte}
    {p : List Byte} {k : ResKind} (hi : (i, typ, tag, p, k) ∈ s.replyRows len ver) :
    FlagsBlind fun f => exec i { s with flags := f } := by
  have hrow (f : Byte) := exec_of_mem_replyRows (s := { s with flags := f }) hlen hi
  simp only [hrow]
  exact replyThenFinish tag p k { s with resTag := typ }

theorem of_mem_frameRows {len : Half} {ver typ : Byte} {i : Instr} (hi : i ∈ frameRows len ver typ) (s : State) :
    FlagsBlind fun f => exec i { s with flags := f } := by
  rcases Nat.lt_or_ge len.toNat OVERHEAD with hlen | hlen
  case inl =>
    have hshort (f : Byte) := (shortLengthIsNotDispatched { s with flags := f } len ver typ i hlen hi).2
    simp only [hshort]
    exact of_flag_set fLENGTH fun _ => rfl
  obtain rfl | rfl | rfl | rfl | rfl | rfl | rfl := mem_frameRows.mp hi
  · simp only [exec_rxData hlen]
    exact of_flags_kept fun _ => rfl
  · exact rxAck hlen ver s
  · exact of_mem_replyRows hlen (.head _)
  · exact of_mem_replyRows hlen (.tail _ (.head _))
  · exact of_mem_replyRows hlen (.tail _ (.tail _ (.head _)))
  · exact rxTest hlen ver s
  · exact rxUnknown hlen ver typ s

end FlagsBlind

/-- Settles O38: no row looks at its version operand, and each is blind to `FLAGS`. -/
theorem dispatchIsBlindToFlags : Obligations.DispatchIsBlindToFlags := by
  intro s t f len ver ver' typ i i' hi h
  have hrow : i ∈ frameRows len ver typ ∧ exec i' = exec i := by
    simp only [List.mem_cons, List.not_mem_nil, or_false, Prod.mk.injEq] at hi
    rw [mem_frameRows]
    obtain ⟨rfl, rfl⟩ | ⟨rfl, rfl⟩ | ⟨rfl, rfl⟩ | ⟨rfl, rfl⟩ | ⟨rfl, rfl⟩ | ⟨rfl, rfl⟩ | ⟨rfl, rfl⟩ := hi
    all_goals exact ⟨by simp, rfl⟩
  obtain ⟨hmem, hver⟩ := hrow
  obtain ⟨u, added, hu⟩ := FlagsBlind.of_mem_frameRows hmem s
  cases (hu s.flags).symm.trans h
  exact ⟨_, added, (congrFun hver _).trans (hu f), rfl, rfl⟩

end Sys2Proof.Machine

/-! The `ack` frames (60_exceptions.md): the receipt of a code (R221), the fault `ack` that the transport does not take (R238, R240), and the codes that a `DECODE` sends (R222). -/

namespace Sys2Proof.Machine

/-! ### The receipt of a code (R203, R221) -/

theorem State.ackReceipt_of_le {c : Byte} (hc : c.toNat ≤ 6) (s : State) :
    s.ackReceipt c = State.finishNoPayload .ack { s with resCode := c } := by
  rw [State.ackReceipt, if_pos hc]; rfl

theorem State.ackReceipt_of_gt {c : Byte} (hc : 6 < c.toNat) (s : State) :
    s.ackReceipt c = State.finishNoPayload .unknownAck { s with resCode := c } := by
  rw [State.ackReceipt, if_neg hc.not_ge]; rfl

/-- Settles O32: each row is the receipt of its code, and 6 is the last code that the Error Code table names. -/
theorem ackCodeRowsReportTheirCode : Obligations.AckCodeRowsReportTheirCode := by
  refine fun s => ⟨fun p hp => ?named, fun code hc => congrArg _ (State.ackReceipt_of_gt hc s)⟩
  have hrow : exec p.1 s = .next (s.ackReceipt p.2) ∧ p.2.toNat ≤ 6 := by
    simp only [List.mem_cons, List.not_mem_nil, or_false] at hp
    obtain rfl | rfl | rfl | rfl | rfl | rfl | rfl := hp
    all_goals exact ⟨rfl, by decide⟩
  obtain ⟨hexec, hcode⟩ := hrow
  rw [hexec, State.ackReceipt_of_le hcode]
  rfl

/-! ### A fault `ack` that is not taken (R238, R240) -/

theorem State.emit_of_fail {s : State} (he : s.txEnv = .fail) (tag : Byte) (p : List Byte) (k : State → State) :
    s.emit tag p k = State.transportFault { s with crcw := frameCrc tag p } := by
  simpa [he] using State.emit_cases tag p s k

theorem State.emit_of_hold {s : State} (he : s.txEnv = .hold) (tag : Byte) (p : List Byte) (k : State → State) :
    s.emit tag p k = { s with crcw := frameCrc tag p } := by
  simpa [he] using State.emit_cases tag p s k

/-- Settles O28: whatever the state of the sequencer, the `ack` that is due is one `Emit`, which follows the transport's answer. -/
theorem faultAckFailsOrHoldsWithTheTransport : Obligations.FaultAckFailsOrHoldsWithTheTransport := by
  intro s c hc
  have hexec : exec .decode s = .next (s.sendPendingAck c) := by simp only [exec, execDecode, hc]
  rw [hexec, State.sendPendingAck, State.sendAck]
  refine ⟨fun he => ?fail, fun he => ?hold⟩
  case fail => rw [State.emit_of_fail he]; rfl
  case hold => rw [State.emit_of_hold he]

/-! ### The codes that a `DECODE` sends (R222) -/

/-- Under distinct tags no frame of another type that the block sends is taken for an `ack` (R105). -/
theorem Config.ne_tagAck_of_distinct {c : Config} (hc : c.distinct) :
    c.tagData ≠ c.tagAck ∧ TAG_OPEN ≠ c.tagAck ∧ c.tagClose ≠ c.tagAck ∧ c.tagEcho ≠ c.tagAck := by
  simp only [Config.distinct, Config.tags, List.nodup_cons, List.mem_cons, List.not_mem_nil, or_false, not_or] at hc
  obtain ⟨⟨hdata, _⟩, ⟨hopen, hclose, hecho, _⟩, _⟩ := hc
  exact ⟨hdata, Ne.symm hopen, Ne.symm hclose, Ne.symm hecho⟩

/-- The one `ack` with which dispatch replies is the one for an unknown type (R209, R212). The fifth byte of `frame tag p` is `tag` by definition (R94). -/
theorem eq_ack_of_replyFrame {s : State} {f : List Byte} (hc : s.cfg.distinct) (hf : s.replyFrame = some f)
    (ht : f.getD 4 0 = s.cfg.tagAck) : f = frame s.cfg.tagAck [ERR_TYPE] := by
  obtain ⟨hdata, hopen, hclose, _⟩ := Config.ne_tagAck_of_distinct hc
  unfold State.replyFrame at hf
  repeat' split at hf
  all_goals cases hf
  case isFalse.isFalse.isTrue => exact absurd ht hopen
  case isFalse.isFalse.isFalse.isTrue => exact absurd ht hclose
  case isFalse.isFalse.isFalse.isFalse.isTrue => exact absurd ht hdata
  case isFalse.isFalse.isFalse.isFalse.isFalse.isFalse => rfl

/-- Of the commands other than `ENC_ACK` only `DECODE` ends with an `ack` (R150, R212). -/
theorem eq_ack_of_finalFrame {s : State} {f : List Byte} (hc : s.cfg.distinct) (ho : s.op ≠ .encAck) (hf : s.finalFrame = some f)
    (ht : f.getD 4 0 = s.cfg.tagAck) : f = frame s.cfg.tagAck [ERR_TYPE] := by
  obtain ⟨hdata, hopen, hclose, hecho⟩ := Config.ne_tagAck_of_distinct hc
  unfold State.finalFrame at hf
  split at hf
  case h_1 => cases (Option.ite_none_right_eq_some.mp hf).2; exact absurd ht hdata
  case h_2 => cases (Option.ite_none_right_eq_some.mp hf).2; exact absurd ht hecho
  case h_3 hack => exact absurd hack ho
  case h_4 => cases hf; exact absurd ht hopen
  case h_5 => cases hf; exact absurd ht hclose
  case h_6 => exact eq_ack_of_replyFrame hc (Option.ite_none_right_eq_some.mp hf).2 ht
  all_goals cases hf

/-- What the transmit port offers is the fault `ack` that is due, or the frame the operation ends with (R64). -/
theorem State.txOffer_cases {s : State} {f : List Byte} (hf : s.txOffer = some f) :
    (∃ c, s.ackPend = some c ∧ f = frame s.cfg.tagAck [c]) ∨ s.finalFrame = some f := by
  unfold State.txOffer at hf
  split at hf
  case isTrue => cases hf
  split at hf
  case h_1 c _ hc => cases hf; exact .inl ⟨c, hc, rfl⟩
  case h_2 => exact .inr (Option.ite_none_left_eq_some.mp hf).2

/-- Settles O55: what is appended is the frame offered, a fault `ack` with the code of its state or the frame the operation ends with. -/
theorem decodeSendsOnlyTheFourFaultCodes : Obligations.DecodeSendsOnlyTheFourFaultCodes := by
  intro s t f h hc ho hstep htxh htype
  obtain hsame | ⟨_, f', hoffer, hsent⟩ := sendsOffer_of_codecTurn hstep
  case inl => simp [hsame] at htxh
  have hf : f' = f := by simpa [hsent] using htxh
  subst hf
  obtain ⟨c, hdue, rfl⟩ | hfinal := State.txOffer_cases hoffer
  case inl => obtain ⟨_, rfl⟩ | ⟨_, rfl⟩ | ⟨_, rfl⟩ := h.ackDue c hdue <;> simp
  case inr => simp [eq_ack_of_finalFrame hc ho hfinal htype]

end Sys2Proof.Machine

/-! The pin `rst` (70_reset_and_hazards.md R260 to R262): what asserting it writes, and what it holds off while it is asserted. -/

namespace Sys2Proof.Machine

/-! ### The turn (R260, R262) -/

/-- The registers are those of `State.reset`; the streams, the parameters and what is not the block's stay (R48, R262). -/
theorem State.resetRegs_eq_reset (s : State) : s.resetRegs =
    { State.reset with
      cfg := s.cfg, tbuf := s.tbuf.forget, pbuf := s.pbuf.forget, rst := s.rst, rxq := s.rxq, rxFault := s.rxFault
      txh := s.txh, txEnv := s.txEnv, sched := s.sched, draws := s.draws, hostRd := s.hostRd } := rfl

theorem rstTurn_assert (s : State) : rstTurn true s = { s.resetRegs with rst := true } := rfl

theorem rstTurn_release (s : State) : rstTurn false s = { s with rst := false } := rfl

/-! ### The ports while `rst` is asserted (R260) -/

theorem State.rxReady_of_rst {s : State} (hr : s.rst = true) : s.rxReady = false := by
  simp [State.rxReady, hr]

theorem State.txOffer_of_rst {s : State} (hr : s.rst = true) : s.txOffer = none := by
  simp [State.txOffer, hr]

/-- Settles O44: asserting the pin is `resetRegs`, and CODEC and both ports look at the pin before any register. -/
theorem resetTurnRestoresRegistersOnly : Obligations.ResetTurnRestoresRegistersOnly := by
  refine ⟨fun s => ?asserted, fun s a => ?buffers, rstTurn_release,
    fun s hr => ⟨codecTurn_of_rst hr, State.rxReady_of_rst hr, State.txOffer_of_rst hr⟩⟩
  case asserted => rw [rstTurn_assert, State.resetRegs_eq_reset]
  case buffers => exact ⟨s.tbuf.get?_forget a, s.pbuf.get?_forget a⟩

end Sys2Proof.Machine
